-- ==== Sys2Proof/Word.lean ====
section
/-! DEFINITION. The words the spec itself treats as bits: bytes and the wider fields of frames. -/

namespace Sys2Proof

/-- A byte of a master link (R169) or the data of a field-line character (R154). -/
abbrev Byte := BitVec 8

/-- A 2-byte field of a frame (R188), and a CRC-16. -/
abbrev Half := BitVec 16

end Sys2Proof
end

