-- ==== Sys2Proof/Syntax.lean ====
section
/-! DEFINITION. The commands of the part: one constructor of `Instr` for each row of spec/opcode_table.json, and the
types of their operands. -/

namespace Sys2Proof

/-! ## Names of the spec -/

/-- The three master ports (00, "The masters"). -/
inductive Port where
  | L | H | E
  deriving DecidableEq, Repr

/-- The two bridge ports, which alone may hold the helm (R2: "Port E is never holder"). -/
inductive Bridge where
  | L | H
  deriving DecidableEq, Repr

/-- The three stations (R1). -/
inductive Station where
  | LEAD | HELPER | BOW
  deriving DecidableEq, Repr

/-- The two field lines. -/
inductive Line where
  | A | B
  deriving DecidableEq, Repr

/-- One value for each station. -/
structure PerStation (α : Type) where
  lead   : α
  helper : α
  bow    : α
  deriving DecidableEq, Repr

/-- The value of a station. -/
def PerStation.get {α : Type} (v : PerStation α) : Station → α
  | .LEAD => v.lead
  | .HELPER => v.helper
  | .BOW => v.bow

/-- Replace the value of a station. -/
def PerStation.set {α : Type} (v : PerStation α) (st : Station) (x : α) : PerStation α :=
  match st with
  | .LEAD => { v with lead := x }
  | .HELPER => { v with helper := x }
  | .BOW => { v with bow := x }

/-- Gear, in the order of R46. -/
inductive Gear where
  | AHEAD | ASTERN | NEUTRAL
  deriving DecidableEq, Repr

/-- An engaged gear: what "last engaged gear" may hold (R46). -/
inductive Engaged where
  | AHEAD | ASTERN
  deriving DecidableEq, Repr

/-- Fault class of an engine report (R50). -/
inductive FaultClass where
  | NONE | WARNING | DERATE | SHUTDOWN
  deriving DecidableEq, Repr

/-- Drum status of a winch report, in the order of R81. -/
inductive DrumStatus where
  | NORMAL | RELEASED | FAULT
  deriving DecidableEq, Repr

/-- Pump status, in the order of R136. -/
inductive PumpStatus where
  | RUNNING | STOPPED | FAULT
  deriving DecidableEq, Repr

/-- State of a node (R156). -/
inductive NodeState where
  | UNHEARD | ONLINE | SUSPECT | OFFLINE
  deriving DecidableEq, Repr

/-! ## Reports of the field nodes (R161, R191) -/

/-- R50: rpm 0 to 65,535, gear, rack 0 to 1000 per-mille, fault class. -/
structure EngineReport where
  rpm   : Nat
  gear  : Gear
  rack  : Nat
  fault : FaultClass
  deriving DecidableEq, Repr

/-- R86: tension 0 to 2,000 kN and drum status. -/
structure WinchReport where
  tension : Nat
  drum    : DrumStatus
  deriving DecidableEq, Repr

/-- One channel of a meter report: a count 0 to 65,535, and the temperature in tenths, or `none` for the invalid
marker (section 6.2, R191). -/
structure ChannelReport where
  count : Nat
  temp  : Option Int
  deriving DecidableEq, Repr

/-- A meter node sends both channels (R161). -/
structure MeterReport where
  ch1 : ChannelReport
  ch2 : ChannelReport
  deriving DecidableEq, Repr

/-- R129: a level in litres, 0 to 16,777,215, and a validity mark. -/
structure TankReport where
  level : Nat
  valid : Bool
  deriving DecidableEq, Repr

/-- A node on a field line whose state the movement controller is told of (R147): a meter node, named by its meter
entry, or a pump node, named by line and address. -/
inductive MovementNode where
  | meter (index : Fin 16)
  | pump (line : Line) (address : Nat)
  deriving DecidableEq, Repr

/-! ## Parameters of the requests, as the bytes carry them (R188, R189) -/

/-- An optional parameter: its presence byte and its value (R188). -/
structure OptParam (n : Nat) where
  presence : Byte
  value    : BitVec n
  deriving DecidableEq, Repr

/-- The 21 configuration bytes of WRITE_ENGINE (R45, R189). -/
structure EngineParams where
  station     : Byte
  axis        : Byte
  side        : Byte
  weight      : Byte
  idleRpm     : Half
  maxRpm      : Half
  upRamp      : Half
  downRamp    : Half
  asternLimit : Half
  economyCap  : Half
  ratedRate   : Half
  feedTank    : Byte
  meter       : OptParam 8
  deriving DecidableEq, Repr

/-- The configuration of WRITE_RUDDER (R67, R189). -/
structure RudderParams where
  station  : Byte
  kind     : Byte
  maxAngle : Half
  slew     : Byte
  deriving DecidableEq, Repr

/-- The configuration of WRITE_COUPLING (R80, R189). -/
structure CouplingParams where
  kind          : Byte
  slackLevel    : Half
  target        : Half
  band          : Half
  strainLevel   : Half
  recoveryLevel : Half
  renderLevel   : Half
  autoTend      : Byte
  deriving DecidableEq, Repr

/-- The configuration of WRITE_METER (R103, R189). -/
structure MeterParams where
  kind    : Byte
  engine  : OptParam 8
  weight1 : Half
  weight2 : Half
  alpha   : Half
  limit   : Half
  deriving DecidableEq, Repr

/-- The configuration of WRITE_TANK (R120, R189). -/
structure TankParams where
  station    : Byte
  capacity   : BitVec 24
  high       : BitVec 24
  low        : BitVec 24
  reserve    : BitVec 24
  empty      : BitVec 24
  hysteresis : OptParam 16
  fitted     : Byte
  source     : Byte
  limit      : Half
  deriving DecidableEq, Repr

/-- The parameters of START_MOVEMENT after the channel (R139, R189). -/
structure MovementParams where
  kind        : Byte
  source      : OptParam 8
  destination : Byte
  meter       : Byte
  pumpLine    : Byte
  pumpAddress : Byte
  mode        : Byte
  target      : OptParam 24
  deriving DecidableEq, Repr

/-- The entry of WRITE_NODE (R156, R189). -/
structure NodeParams where
  kind    : Byte
  address : Byte
  bound   : OptParam 8
  deriving DecidableEq, Repr

/-! ## Line levels, characters, bytes and frames -/

/-- The levels of the input lines that a request may sample as it is taken: the trip lines (R54, R55) and the
take-over lines (R16). -/
structure LineLevels where
  trip  : PerStation Bool
  takeL : Bool
  takeH : Bool
  deriving DecidableEq, Repr

/-- The rate straps, read at the end of full reset (R169): true is high. -/
structure Straps where
  rateL : Bool
  rateH : Bool
  rateE : Bool
  deriving DecidableEq, Repr

/-- The three samples a bit is decided from. -/
structure Samples where
  s1 : Bool
  s2 : Bool
  s3 : Bool
  deriving DecidableEq, Repr

/-- The samples of one character on a field line (R155): samples 3, 5 and 7 of the start bit, samples 7, 8 and 9 of the
8 data bits (least significant first), of the mark bit and of the stop bit. -/
structure CharSamples where
  start : Samples
  data  : Vector Samples 8
  mark  : Samples
  stop  : Samples
  deriving DecidableEq, Repr

/-- The samples of one byte on a master link (R169): the start bit, the 8 data bits (least significant first) and the stop
bit, each sampled three times at its centre. -/
structure ByteSamples where
  start : Samples
  data  : Vector Samples 8
  stop  : Samples
  deriving DecidableEq, Repr

/-- A moment of a character on a field line (R155; log 24). -/
inductive CharEvent where
  /-- the line falls; the samples are those the receiver takes from this edge on, if it takes them -/
  | edge (samples : CharSamples)
  /-- the end of the character that began at an edge -/
  | ends
  /-- the line returns to high, after it was low at sample 9 of a stop bit -/
  | high
  deriving DecidableEq, Repr

/-- A moment of a byte on a master link (R169, R170; log 24). The command carries the levels of the input lines when the
byte has been received (log 6). -/
inductive ByteEvent where
  /-- the link falls; the samples are those the receiver takes from this edge on -/
  | edge (samples : ByteSamples)
  /-- the end of the byte that began at an edge -/
  | ends
  deriving DecidableEq, Repr

/-- A completed request frame (10.2): tag, request code, parameters and the received CRC-16. Its length byte counts the
tag, the code and the parameters. -/
structure RequestFrame where
  tag    : Byte
  code   : Byte
  params : List Byte
  crc    : Half
  deriving DecidableEq, Repr

/-- One command of the part: one constructor for each row of spec/opcode_table.json. A request carries the issuing port
and the tag of its frame, its parameters as the bytes carry them, and the level of an input line it samples. -/
inductive Instr where
  -- helm unit (01)
  | claimHelm (p : Port) (tag : Byte)
  | answerHelm (p : Port) (tag : Byte) (choice : Byte)
  | cancel (p : Port) (tag : Byte)
  | releaseHelm (p : Port) (tag : Byte)
  | takeHelm (p : Port) (tag : Byte) (line : Bool)
  | setYieldPolicy (p : Port) (tag : Byte) (policy : Byte)
  | setOrder (p : Port) (tag : Byte) (thrust turn : Half) (mode : Byte)
  | readHelm (p : Port) (tag : Byte)
  | queryDeadlineExpiry
  | silenceDeadlineExpiry
  | decayTimerExpiry
  -- allocator (02)
  | passTimerExpiry
  | readAllocation (p : Port) (tag : Byte)
  | writeParameters (p : Port) (tag : Byte) (parameter : Byte) (value : Half)
  | readParameters (p : Port) (tag : Byte)
  -- engine sequencer (03)
  | passResultTakenEngines
  | passResultTakenRudders
  | readEngine (p : Port) (tag : Byte) (slot : Byte)
  | writeEngine (p : Port) (tag : Byte) (slot marker : Byte) (cfg : EngineParams)
  | setStandby (p : Port) (tag : Byte) (slot : Byte)
  | reinstate (p : Port) (tag : Byte) (slot : Byte)
  | clearTrip (p : Port) (tag : Byte) (station : Byte) (lines : PerStation Bool)
  | tripLineAsserted (station : Station)
  | dwellDeadlineExpiry (slot : Fin 8)
  | gearConfirmExpiry (slot : Fin 8)
  | trackingDeadlineExpiry (slot : Fin 8)
  | engineReportTaken (slot : Fin 8) (report : EngineReport)
  | engineNodeStateTaken (slot : Fin 8) (state : NodeState)
  -- rudder controller (04)
  | readRudder (p : Port) (tag : Byte) (slot : Byte)
  | writeRudder (p : Port) (tag : Byte) (slot marker : Byte) (cfg : RudderParams)
  | clearRudderFault (p : Port) (tag : Byte) (slot : Byte)
  | readSteering (p : Port) (tag : Byte)
  | rudderReportTaken (slot : Fin 8) (angle : Int)
  | rudderNodeStateTaken (slot : Fin 8) (state : NodeState)
  | jamDeadlineExpiry (slot : Fin 8)
  -- coupling supervisor (05)
  | readCoupling (p : Port) (tag : Byte) (index : Byte)
  | writeCoupling (p : Port) (tag : Byte) (index marker : Byte) (cfg : CouplingParams)
  | makeUp (p : Port) (tag : Byte) (index : Byte)
  | releaseCoupling (p : Port) (tag : Byte) (index : Byte)
  | resetCoupling (p : Port) (tag : Byte) (index : Byte)
  | setTension (p : Port) (tag : Byte) (index : Byte) (target band : Half)
  | readPeak (p : Port) (tag : Byte) (index : Byte)
  | readCeilings (p : Port) (tag : Byte)
  | winchReportTaken (index : Fin 24) (report : WinchReport)
  | winchNodeStateTaken (index : Fin 24) (state : NodeState)
  | freshnessDeadlineExpiry (index : Fin 24)
  | heaveDeadlineExpiry (index : Fin 24)
  | releaseDeadlineExpiry (index : Fin 24)
  | slackDwellExpiry (index : Fin 24)
  -- meter unit (06)
  | readMeter (p : Port) (tag : Byte) (index clear : Byte)
  | writeMeter (p : Port) (tag : Byte) (index marker : Byte) (cfg : MeterParams)
  | setMeter (p : Port) (tag : Byte) (index : Byte) (alpha limit : Half)
  | meterReportTaken (index : Fin 16) (report : MeterReport)
  | meterNodeStateTaken (index : Fin 16) (state : NodeState)
  | estimationTimerExpiry
  -- fuel account (07)
  | readTank (p : Port) (tag : Byte) (index : Byte)
  | writeTank (p : Port) (tag : Byte) (index marker : Byte) (cfg : TankParams)
  | rebaseTank (p : Port) (tag : Byte) (index : Byte) (value : OptParam 32)
  | setFeed (p : Port) (tag : Byte) (engine tank : Byte)
  | setTank (p : Port) (tag : Byte) (index source : Byte) (limit : Half)
  | tankReportTaken (index : Fin 8) (report : TankReport)
  | tankNodeStateTaken (index : Fin 8) (state : NodeState)
  | discrepancyDeadlineExpiry (index : Fin 8)
  -- movement controller (08)
  | startMovement (p : Port) (tag : Byte) (channel : Byte) (req : MovementParams)
  | stopMovement (p : Port) (tag : Byte) (channel : Byte)
  | retireMovement (p : Port) (tag : Byte)
  | readMovementChannel (p : Port) (tag : Byte) (channel : Byte)
  | readMovementRecord (p : Port) (tag : Byte) (index : Byte)
  | movementNodeStateTaken (node : MovementNode) (state : NodeState)
  | pumpReportTaken (line : Line) (address : Nat) (status : PumpStatus)
  | settlingDeadlineExpiry (channel : Fin 2)
  -- field line controllers (09)
  | writeNode (p : Port) (tag : Byte) (line position marker : Byte) (cfg : NodeParams)
  | readNode (p : Port) (tag : Byte) (line position clear : Byte)
  | readLine (p : Port) (tag : Byte) (line clear : Byte)
  | restartLine (p : Port) (tag : Byte) (line : Byte)
  | pollTransmit (line : Line)
  | quietWaitTimeout (line : Line)
  | replyWindowClose (line : Line)
  | replyEnd (line : Line)
  | fieldCharacterReceived (line : Line) (event : CharEvent)
  -- master ports (10)
  | requestFrameReceived (p : Port) (frame : RequestFrame) (levels : LineLevels)
  | frameGapTimeout (p : Port)
  | replySent (p : Port)
  | readEvents (p : Port) (tag : Byte)
  | clearEvents (p : Port) (tag : Byte) (set : BitVec 24)
  | setEventMask (p : Port) (tag : Byte) (set : BitVec 24)
  | readPortStatus (p : Port) (tag : Byte) (port clear : Byte)
  -- phase controller (11)
  | readPhase (p : Port) (tag : Byte)
  | commitConfig (p : Port) (tag : Byte) (lines : PerStation Bool)
  | reconfigure (p : Port) (tag : Byte)
  | secondsTimerExpiry
  | fullReset
  | resetEnd (straps : Straps)
  -- links, bytes and transmissions
  | portByteReceived (p : Port) (event : ByteEvent) (levels : LineLevels)
  | pollTransmissionEnd (line : Line)
  deriving DecidableEq, Repr

end Sys2Proof
end

