-- ==== Sys2Proof/Decode.lean ====
section
/-! DEFINITION. The decoder over the rows of spec/opcode_table.json that give bits. None of the 95 rows gives any (98,
"n_rows_with_fixed": 0), so no word spells a command. The request codes of R189 are read from frames by
Machine/Frames.lean. -/

namespace Sys2Proof

/-- The command that a word spells by the table's bits: none, since no row gives bits. -/
def decodeTableWord (_nbits _w : Nat) : Option Instr := none

end Sys2Proof
end

