-- ==== Sys2Proof/Config.lean ====
section
/-! DEFINITION. What an implementation fixes, and the free values: constants without a body, so that no proof can see
what they are. -/

namespace Sys2Proof

/-- Free value (log 12). Where several of the part's own events are due at one moment and nothing orders them (00,
Taken), the `n`-th such choice takes the event at this place of the list of them, modulo its length. -/
opaque Config.freeChoice : Nat → Nat

/-- Free value (log 11). Whether a body rounds a part of a millisecond up: the argument is the part, in units of the
clock. The spec gives deadlines and ages in milliseconds (R2, R46) and does not say how a part of one is rounded. -/
opaque Config.partialMsUp : Nat → Bool

end Sys2Proof
end

