-- ==== Sys2Proof/Machine/State.lean ====
section
/-! DEFINITION. The state of the part, block by block, as plain data, and its value right after full reset. Deadlines and
timers hold the moment they expire, in units of the clock `now` (log 1). -/

namespace Sys2Proof.Machine

open Sys2Proof

/-! ## How a step can stop -/

/-- The spec names no condition that stops the part: every request is answered, a damaged frame is discarded and
counted, and an event that cannot occur leaves the state as it is. -/
inductive Fault where
  /-- Raised by no command (safe: no claim can rest on it). -/
  | notRaised
  deriving DecidableEq, Repr

/-- Why a command is turned away. -/
inductive Refusal where
  /-- Raised only by an arm of `exec` whose command has no meaning yet; no arm does (safe). -/
  | notModelled (mnemonic : String)
  deriving DecidableEq, Repr

/-! ## Values of each port and line -/

/-- One value for each master port. -/
structure PerPort (α : Type) where
  l : α
  h : α
  e : α
  deriving DecidableEq, Repr

/-- The value of a port. -/
def PerPort.get {α : Type} (v : PerPort α) : Port → α
  | .L => v.l
  | .H => v.h
  | .E => v.e

/-- Replace the value of a port. -/
def PerPort.set {α : Type} (v : PerPort α) (p : Port) (x : α) : PerPort α :=
  match p with
  | .L => { v with l := x }
  | .H => { v with h := x }
  | .E => { v with e := x }

/-- One value for each field line. -/
structure PerLine (α : Type) where
  a : α
  b : α
  deriving DecidableEq, Repr

/-- The value of a line. -/
def PerLine.get {α : Type} (v : PerLine α) : Line → α
  | .A => v.a
  | .B => v.b

/-- Replace the value of a line. -/
def PerLine.set {α : Type} (v : PerLine α) (l : Line) (x : α) : PerLine α :=
  match l with
  | .A => { v with a := x }
  | .B => { v with b := x }

/-! ## Helm unit (01) -/

/-- R2. -/
inductive HelmState where
  | UNCLAIMED | HELD | QUERY | HOLDING
  deriving DecidableEq, Repr

/-- R2. -/
inductive YieldPolicy where
  | YIELD_ALWAYS | YIELD_ON_ANSWER | YIELD_NEVER
  deriving DecidableEq, Repr

/-- R20. -/
inductive Mode where
  | STOP | TRANSIT | MANOEUVRE
  deriving DecidableEq, Repr

/-- The helm record (R2) and the decay timer (R19). -/
structure Helm where
  state           : HelmState
  holder          : Option Bridge
  requester       : Option Bridge
  queryDeadline   : Option Nat
  silenceDeadline : Option Nat
  lastHolder      : Option Bridge
  takeOvers       : Nat
  policyL         : YieldPolicy
  policyH         : YieldPolicy
  decayTimer      : Option Nat
  deriving DecidableEq, Repr

/-- R2, column POR. -/
def Helm.por : Helm where
  state := .UNCLAIMED
  holder := none
  requester := none
  queryDeadline := none
  silenceDeadline := none
  lastHolder := none
  takeOvers := 0
  policyL := .YIELD_ON_ANSWER
  policyH := .YIELD_ON_ANSWER
  decayTimer := none

/-- The convoy order (R20). -/
structure Order where
  thrust : Int
  turn   : Int
  mode   : Mode
  deriving DecidableEq, Repr

/-- R20: POR, and value at commit and reconfigure. -/
def Order.por : Order := { thrust := 0, turn := 0, mode := .STOP }

/-! ## The eight parameters (R29, R62, R84, R183) -/

/-- R183. -/
structure Params where
  diffGain         : Nat
  fallbackGain     : Nat
  bowGain          : Nat
  engageThreshold  : Nat
  releaseThreshold : Nat
  strainFactor     : Nat
  gearDwell        : Nat
  trackingBand     : Nat
  deriving DecidableEq, Repr

/-- R183, column POR. -/
def Params.por : Params where
  diffGain := 250
  fallbackGain := 150
  bowGain := 800
  engageThreshold := 30
  releaseThreshold := 100
  strainFactor := 700
  gearDwell := 3000
  trackingBand := 150

/-! ## Allocator (02) -/

/-- The allocation record (R26). -/
structure Allocation where
  passNumber : Nat
  tLim       : Int
  uLim       : Int
  ceilC      : Nat
  ceilK      : Nat
  mode       : Mode
  wCfg       : Nat
  wAvail     : Nat
  deficit    : Nat
  shares     : Vector Int 8
  gains      : PerStation Nat
  lateral    : Int
  rounds     : Nat
  deriving DecidableEq, Repr

/-- R26, last column. -/
def Allocation.por : Allocation where
  passNumber := 0
  tLim := 0
  uLim := 0
  ceilC := 1000
  ceilK := 1000
  mode := .STOP
  wCfg := 0
  wAvail := 0
  deficit := 0
  shares := Vector.replicate 8 0
  gains := { lead := 0, helper := 0, bow := 0 }
  lateral := 0
  rounds := 0

/-- What a pass hands to the rudder controller (R43, R77). -/
structure RudderResult where
  uLim       : Int
  gains      : PerStation Nat
  mode       : Mode
  passNumber : Nat
  deriving DecidableEq, Repr

/-! ## Engine sequencer (03) -/

/-- R45. -/
inductive Axis where
  | AHEAD | LATERAL
  deriving DecidableEq, Repr

/-- R45. -/
inductive Side where
  | PORT | CENTRE | STARBOARD
  deriving DecidableEq, Repr

/-- R46. -/
inductive FaultCause where
  | SHUTDOWN | GEAR_MISMATCH
  deriving DecidableEq, Repr

/-- R46. -/
inductive FeedLevel where
  | FED | RESERVE | EMPTY
  deriving DecidableEq, Repr

/-- R46, R48. -/
inductive EngineState where
  | ABSENT | STANDBY | LOST | FAULTED | STARVED | DEGRADED | ONLINE
  deriving DecidableEq, Repr

/-- Line and address of a bound node (R45, R67, R80, R103, R120), and of a pump node (R136). -/
structure NodeRef where
  line    : Line
  address : Nat
  deriving DecidableEq, Repr

/-- The configuration that WRITE_ENGINE writes (R45). -/
structure EngineCfg where
  station     : Station
  axis        : Axis
  side        : Side
  weight      : Nat
  idleRpm     : Nat
  maxRpm      : Nat
  upRamp      : Nat
  downRamp    : Nat
  asternLimit : Nat
  economyCap  : Nat
  ratedRate   : Nat
  feedTank    : Fin 8
  meter       : Option (Fin 16)
  deriving DecidableEq, Repr

/-- R45, column POR. -/
def EngineCfg.por : EngineCfg where
  station := .LEAD
  axis := .AHEAD
  side := .CENTRE
  weight := 1
  idleRpm := 600
  maxRpm := 1800
  upRamp := 100
  downRamp := 200
  asternLimit := 700
  economyCap := 500
  ratedRate := 100
  feedTank := 0
  meter := none

/-- One slot of the engine roster (R45, R46). The report age of R46 is kept as the time of the last report. -/
structure Engine where
  configured     : Bool
  cfg            : EngineCfg
  node           : Option NodeRef
  standby        : Bool
  nodeAvailable  : Bool
  fault          : Option FaultCause
  derate         : Bool
  tracking       : Bool
  feed           : FeedLevel
  state          : EngineState
  eligible       : Bool
  aheadCap       : Nat
  asternCap      : Nat
  gear           : Gear
  rpm            : Nat
  lastGear       : Option Engaged
  dwell          : Option Nat
  confirm        : Option Nat
  confirmed      : Bool
  trackDeadline  : Option Nat
  lastReport     : Option EngineReport
  reportAt       : Option Nat
  deriving DecidableEq, Repr

/-- R46, last column, for a slot with the configuration `cfg`: LOST where it is configured, ABSENT where not. -/
def Engine.fresh (configured : Bool) (cfg : EngineCfg) (node : Option NodeRef) (feed : FeedLevel) : Engine where
  configured := configured
  cfg := cfg
  node := node
  standby := false
  nodeAvailable := false
  fault := none
  derate := false
  tracking := false
  feed := feed
  state := if configured then .LOST else .ABSENT
  eligible := false
  aheadCap := 0
  asternCap := 0
  gear := .NEUTRAL
  rpm := cfg.idleRpm
  lastGear := none
  dwell := none
  confirm := none
  confirmed := false
  trackDeadline := none
  lastReport := none
  reportAt := none

/-- R45, R46: an ABSENT slot with its POR values. -/
def Engine.por : Engine := Engine.fresh false EngineCfg.por none .FED

/-- The consumption totals of a slot, held by the meter unit (R112). -/
structure EngineTotals where
  metered     : Int
  estimated   : Nat
  unaccounted : Nat
  deriving DecidableEq, Repr

/-! ## Rudder controller (04) -/

/-- R67. -/
inductive RudderKind where
  | MAIN | FLANKING
  deriving DecidableEq, Repr

/-- R68. -/
inductive RudderState where
  | ABSENT | ONLINE | LOST | JAMMED
  deriving DecidableEq, Repr

/-- The configuration that WRITE_RUDDER writes (R67). -/
structure RudderCfg where
  station  : Station
  kind     : RudderKind
  maxAngle : Nat
  slew     : Nat
  deriving DecidableEq, Repr

/-- R67, column POR. -/
def RudderCfg.por : RudderCfg := { station := .LEAD, kind := .MAIN, maxAngle := 350, slew := 40 }

/-- One slot of the rudder table (R67, R68). -/
structure Rudder where
  configured    : Bool
  cfg           : RudderCfg
  node          : Option NodeRef
  nodeAvailable : Bool
  jam           : Bool
  state         : RudderState
  target        : Int
  commanded     : Int
  jamDeadline   : Option Nat
  lastAngle     : Option Int
  deriving DecidableEq, Repr

/-- R68, last column. -/
def Rudder.fresh (configured : Bool) (cfg : RudderCfg) (node : Option NodeRef) : Rudder where
  configured := configured
  cfg := cfg
  node := node
  nodeAvailable := false
  jam := false
  state := if configured then .LOST else .ABSENT
  target := 0
  commanded := 0
  jamDeadline := none
  lastAngle := none

/-- R67, R68: an ABSENT slot. -/
def Rudder.por : Rudder := Rudder.fresh false RudderCfg.por none

/-- The station view the rudder controller keeps (R77). -/
structure Steering where
  backing    : PerStation Bool
  gains      : PerStation Nat
  uLim       : Int
  mode       : Mode
  passNumber : Nat
  deriving DecidableEq, Repr

/-- R77: values at full reset and at commit. -/
def Steering.por : Steering where
  backing := { lead := false, helper := false, bow := false }
  gains := { lead := 0, helper := 0, bow := 0 }
  uLim := 0
  mode := .STOP
  passNumber := 0

/-! ## Coupling supervisor (05) -/

/-- R80. -/
inductive CouplingKind where
  | FACE | FORE_AFT | LATERAL
  deriving DecidableEq, Repr

/-- R81. -/
inductive CouplingState where
  | UNUSED | UNKNOWN | SLACK | MAKING_UP | MADE_UP | STRAINED | RENDERING | RELEASING | RELEASED | WINCH_FAULT
  deriving DecidableEq, Repr

/-- R81. -/
inductive WinchCommand where
  | BRAKE | HEAVE | RENDER | RELEASE
  deriving DecidableEq, Repr

/-- R81: which of the three the state deadline is. -/
inductive StateDeadlineKind where
  | heave | release | slackDwell
  deriving DecidableEq, Repr

/-- The state deadline of a coupling (R81). -/
structure StateDeadline where
  kind : StateDeadlineKind
  time : Nat
  deriving DecidableEq, Repr

/-- The configuration that WRITE_COUPLING writes (R80). -/
structure CouplingCfg where
  kind          : CouplingKind
  slackLevel    : Nat
  target        : Nat
  band          : Nat
  strainLevel   : Nat
  recoveryLevel : Nat
  renderLevel   : Nat
  autoTend      : Bool
  deriving DecidableEq, Repr

/-- R80, column POR. -/
def CouplingCfg.por : CouplingCfg where
  kind := .FACE
  slackLevel := 20
  target := 120
  band := 15
  strainLevel := 250
  recoveryLevel := 180
  renderLevel := 350
  autoTend := false

/-- One entry of the coupling table (R80, R81). The tension age of R81 is kept as the time of the last report. -/
structure Coupling where
  used          : Bool
  cfg           : CouplingCfg
  node          : Option NodeRef
  state         : CouplingState
  nodeAvailable : Bool
  command       : WinchCommand
  lastTension   : Option Nat
  lastDrum      : Option DrumStatus
  reportAt      : Option Nat
  freshness     : Option Nat
  deadline      : Option StateDeadline
  overloads     : Nat
  peak          : Nat
  deriving DecidableEq, Repr

/-- R81, column POR, with the state of R82: UNKNOWN where the entry is used. -/
def Coupling.fresh (used : Bool) (cfg : CouplingCfg) (node : Option NodeRef) : Coupling where
  used := used
  cfg := cfg
  node := node
  state := if used then .UNKNOWN else .UNUSED
  nodeAvailable := false
  command := .BRAKE
  lastTension := none
  lastDrum := none
  reportAt := none
  freshness := none
  deadline := none
  overloads := 0
  peak := 0

/-- R80, R81: an UNUSED entry. -/
def Coupling.por : Coupling := Coupling.fresh false CouplingCfg.por none

/-- The published thrust and turn ceilings (R99). -/
structure Ceilings where
  c : Nat
  k : Nat
  deriving DecidableEq, Repr

/-! ## Meter unit (06) -/

/-- R103. -/
inductive MeterKind where
  | ENGINE | TRANSFER | RECEIPT
  deriving DecidableEq, Repr

/-- The configuration that WRITE_METER writes (R103). -/
structure MeterCfg where
  kind    : MeterKind
  engine  : Option (Fin 8)
  weight1 : Nat
  weight2 : Nat
  alpha   : Nat
  limit   : Nat
  deriving DecidableEq, Repr

/-- R103, column POR. -/
def MeterCfg.por : MeterCfg where
  kind := .ENGINE
  engine := none
  weight1 := 1
  weight2 := 1
  alpha := 800
  limit := 1000

/-- The run-time fields of one channel of a meter (R104). -/
structure MeterChannel where
  baseline    : Option Nat
  residue     : Nat
  tempInvalid : Bool
  last        : Option ChannelReport
  deriving DecidableEq, Repr

/-- R104, column POR. -/
def MeterChannel.por : MeterChannel := { baseline := none, residue := 0, tempInvalid := false, last := none }

/-- One entry of the meter table (R103, R104). -/
structure Meter where
  used          : Bool
  cfg           : MeterCfg
  node          : Option NodeRef
  ch1           : MeterChannel
  ch2           : MeterChannel
  nodeAvailable : Bool
  heard         : Bool
  excess        : Nat
  implausible   : Nat
  stray         : Nat
  estimating    : Bool
  estResidue    : Nat
  heldRack      : Nat
  rackHold      : Nat
  deriving DecidableEq, Repr

/-- R104, column POR, for an entry with the configuration `cfg`. -/
def Meter.fresh (used : Bool) (cfg : MeterCfg) (node : Option NodeRef) : Meter where
  used := used
  cfg := cfg
  node := node
  ch1 := MeterChannel.por
  ch2 := MeterChannel.por
  nodeAvailable := false
  heard := false
  excess := 0
  implausible := 0
  stray := 0
  estimating := false
  estResidue := 0
  heldRack := 0
  rackHold := 0

/-- R103, R104: an UNUSED entry. -/
def Meter.por : Meter := Meter.fresh false MeterCfg.por none

/-! ## Fuel account (07) -/

/-- R120. -/
inductive StateSource where
  | BOOK | SOUNDING
  deriving DecidableEq, Repr

/-- R121. -/
inductive TankState where
  | EMPTY | RESERVE | LOW | NORMAL | HIGH
  deriving DecidableEq, Repr

/-- The configuration that WRITE_TANK writes (R120), levels in litres. -/
structure TankCfg where
  station    : Station
  capacity   : Nat
  high       : Nat
  low        : Nat
  reserve    : Nat
  empty      : Nat
  hysteresis : Nat
  fitted     : Bool
  source     : StateSource
  limit      : Nat
  deriving DecidableEq, Repr

/-- R120, column POR. -/
def TankCfg.por : TankCfg where
  station := .LEAD
  capacity := 10000
  high := 9000
  low := 2000
  reserve := 1000
  empty := 200
  hysteresis := 100
  fitted := false
  source := .BOOK
  limit := 100

/-- The account of a tank (R121): book and opening content, the four totals and the saturated flag. -/
structure Account where
  book        : Int
  opening     : Int
  received    : Int
  transferIn  : Int
  transferOut : Int
  consumed    : Int
  saturated   : Bool
  deriving DecidableEq, Repr

/-- R121, column POR. -/
def Account.por : Account where
  book := 0
  opening := 0
  received := 0
  transferIn := 0
  transferOut := 0
  consumed := 0
  saturated := false

/-- One entry of the tank table (R120, R121). -/
structure Tank where
  used          : Bool
  cfg           : TankCfg
  node          : Option NodeRef
  account       : Account
  sounding      : Option Nat
  soundingValid : Bool
  state         : Option TankState
  discrepancy   : Bool
  discDeadline  : Option Nat
  deriving DecidableEq, Repr

/-- R120, R121: an UNUSED entry. -/
def Tank.por : Tank where
  used := false
  cfg := TankCfg.por
  node := none
  account := Account.por
  sounding := none
  soundingValid := false
  state := none
  discrepancy := false
  discDeadline := none

/-! ## Movement controller (08) -/

/-- R136. -/
inductive ChannelState where
  | IDLE | RUNNING | SETTLING
  deriving DecidableEq, Repr

/-- R136. -/
inductive MovementKind where
  | TRANSFER | RECEIPT
  deriving DecidableEq, Repr

/-- R136. -/
inductive MovementMode where
  | COUNT | FREE_RUN
  deriving DecidableEq, Repr

/-- R136. -/
inductive StopReason where
  | COUNT_REACHED | STOPPED | SOURCE_RESERVE | DESTINATION_HIGH | METER_LOST | PUMP_FAULT
  deriving DecidableEq, Repr

/-- A movement channel (R136). -/
structure Channel where
  state        : ChannelState
  kind         : Option MovementKind
  source       : Option (Fin 8)
  destination  : Option (Fin 8)
  meter        : Option (Fin 16)
  pump         : Option NodeRef
  mode         : Option MovementMode
  target       : Option Nat
  moved        : Nat
  overflow     : Bool
  wraps        : Nat
  runOn        : Nat
  stopReason   : Option StopReason
  stopSecond   : Option Nat
  settling     : Option Nat
  zeroReports  : Nat
  number       : Option Nat
  startSecond  : Option Nat
  lastPump     : Option PumpStatus
  deriving DecidableEq, Repr

/-- R136, column POR. -/
def Channel.por : Channel where
  state := .IDLE
  kind := none
  source := none
  destination := none
  meter := none
  pump := none
  mode := none
  target := none
  moved := 0
  overflow := false
  wraps := 0
  runOn := 0
  stopReason := none
  stopSecond := none
  settling := none
  zeroReports := 0
  number := none
  startSecond := none
  lastPump := none

/-- A movement record (R150). The fields are the channel's at the close, so each may hold what the channel's field
may; the end second is the running-seconds count at the close. -/
structure MovementRecord where
  number      : Option Nat
  kind        : Option MovementKind
  source      : Option (Fin 8)
  destination : Option (Fin 8)
  mode        : Option MovementMode
  target      : Option Nat
  moved       : Nat
  runOn       : Nat
  overflow    : Bool
  wraps       : Nat
  stopReason  : Option StopReason
  startSecond : Option Nat
  endSecond   : Nat
  deriving DecidableEq, Repr

/-! ## Field line controllers (09) -/

/-- The bound object of a node entry, which gives its kind as well (R156). -/
inductive Bound where
  | engine (slot : Fin 8)
  | rudder (slot : Fin 8)
  | winch (index : Fin 24)
  | meter (index : Fin 16)
  | tank (index : Fin 8)
  | pump
  deriving DecidableEq, Repr

/-- The contents of a GOOD reply, by kind (R156, R161). -/
inductive NodeReport where
  | engine (r : EngineReport)
  | rudder (angle : Int)
  | winch (r : WinchReport)
  | meter (r : MeterReport)
  | tank (r : TankReport)
  | pump (status : PumpStatus)
  deriving DecidableEq, Repr

/-- An entry of a node list (R156). -/
structure NodeEntry where
  bound      : Bound
  address    : Nat
  state      : NodeState
  failures   : Nat
  noise      : Nat
  framing    : Nat
  check      : Nat
  timeout    : Nat
  stray      : Nat
  lastReport : Option NodeReport
  deriving DecidableEq, Repr

/-- R156, column "Value when written". -/
def NodeEntry.fresh (bound : Bound) (address : Nat) : NodeEntry where
  bound := bound
  address := address
  state := .UNHEARD
  failures := 0
  noise := 0
  framing := 0
  check := 0
  timeout := 0
  stray := 0
  lastReport := none

/-- R157. -/
inductive Activity where
  | IDLE | POLLING
  deriving DecidableEq, Repr

/-- R157. -/
inductive Attempt where
  | FIRST | RETRY
  deriving DecidableEq, Repr

/-- A character as the receiver decided it (R155). -/
structure RxChar where
  data    : Byte
  mark    : Bool
  noisy   : Bool
  framing : Bool
  deriving DecidableEq, Repr

/-- A character sent (R154): mark bit and data. -/
structure TxChar where
  mark : Bool
  data : Byte
  deriving DecidableEq, Repr

/-- What has been received since the reply window opened (R160): nothing of the reply yet, the characters of a reply
that has begun, or that many characters of a late reply to the other attempt. -/
inductive Reception where
  | waiting
  | reply (chars : List RxChar)
  | late (count : Nat)
  deriving DecidableEq, Repr

/-- What a line controller is doing on its line (R154, R160, R162, R167). -/
inductive Link where
  /-- nothing to send -/
  | idle
  /-- a transmission has been due since that time and waits for the quiet -/
  | due (since : Nat)
  /-- a poll is being sent, between the two times -/
  | sending (start stop : Nat)
  /-- an abandoned transmission ends with the character being sent: when it began, when it ends, and since when the next
  one is due (log 37) -/
  | stopping (start stop since : Nat)
  /-- the reply window of an attempt: when it closes, whether it is still open, what has been received -/
  | window (closesAt : Nat) (isOpen : Bool) (rx : Reception)
  deriving DecidableEq, Repr

/-- The receiver of a line (R155): searching for a falling edge; taking the samples of what began at an edge, with whether
the line has risen after sample 9 of the stop bit; or waiting for the line to be high. -/
inductive LineReceiver where
  | searching
  | sampling (since : Nat) (samples : CharSamples) (risen : Bool)
  | waitingHigh
  deriving DecidableEq, Repr

/-- One field line controller: its node list (R156), its line record (R157) and the state its rules imply. -/
structure LineCtl where
  nodes           : Vector (Option NodeEntry) 32
  activity        : Activity
  round           : Nat
  position        : Option (Fin 32)
  attempt         : Option Attempt
  strays          : Nat
  roundsCompleted : Nat
  lineDown        : Bool
  /-- the position the next first attempt goes to (R158) -/
  cursor          : Option (Fin 32)
  link            : Link
  /-- the payload of the first attempt, which the retry carries again (R159) -/
  payload         : List Byte
  /-- the characters of the poll last composed (R159) -/
  sent            : List TxChar
  receiver        : LineReceiver
  /-- the end of the last character received (R162) -/
  lastChar        : Option Nat
  /-- a late reply still running after its window has closed: entry and characters so far (R160, log 23) -/
  lateTail        : Option (Fin 32 × Nat)
  /-- hand-overs to the owners that have not been taken yet, oldest first (R165, log 9) -/
  handovers       : List Instr
  deriving DecidableEq, Repr

/-- R157, column POR, with an empty list. -/
def LineCtl.por : LineCtl where
  nodes := Vector.replicate 32 none
  activity := .IDLE
  round := 0
  position := none
  attempt := none
  strays := 0
  roundsCompleted := 0
  lineDown := false
  cursor := none
  link := .idle
  payload := []
  sent := []
  receiver := .searching
  lastChar := none
  lateTail := none
  handovers := []

/-! ## Master ports (10) -/

/-- The 25 result codes, in the order of the table of chapter 10 (R188). -/
inductive Result where
  | DONE | CLAMPED | GRANTED | DECLINED | TIMED_OUT | CANCELLED | NOTHING_PENDING | BUSY | BAD_REQUEST | BAD_INDEX
  | BAD_VALUE | BAD_PHASE | NOT_PERMITTED | NOT_HOLDER | NOT_READY | STILL_ASSERTED | UNSAFE | CHANNEL_BUSY | CLAIMED
  | TANK_BUSY | LIST_FULL | SOURCE_LOW | NO_ROOM | NODE_UNAVAILABLE | CONFIG_INVALID
  deriving DecidableEq, Repr

/-- The 22 event kinds, in the order of their bits (R190). -/
inductive EventKind where
  | RESTARTED | PHASE_CHANGED | HELM_CHANGED | HELM_QUERY | HELM_TAKEN | HELM_SILENT | ENGINE_CHANGED | STATION_TRIPPED
  | THRUST_DEFICIT | CEILING_CHANGED | RUDDER_CHANGED | COUPLING_CHANGED | COUPLING_OVERLOAD | TANK_CHANGED
  | FEED_STARVED | DISCREPANCY | METER_IMPLAUSIBLE | STRAY_FLOW | ESTIMATING | MOVEMENT_ENDED | NODE_CHANGED | LINE_DOWN
  deriving DecidableEq, Repr

/-- A set of event kinds: the kind at position n of R190 is bit n. -/
abbrev EventSet := BitVec 22

/-- A composed reply (R171). -/
structure Reply where
  tag     : Byte
  result  : Result
  pending : Nat
  body    : List Byte
  deriving DecidableEq, Repr

/-- A request in flight: its code and its tag (R178). -/
structure Slot where
  code : Byte
  tag  : Byte
  deriving DecidableEq, Repr

/-- R169, R178. -/
inductive Rate where
  | r115200 | r460800
  deriving DecidableEq, Repr

/-- The receiver of a port (R170): hunting; a start byte taken; or the length taken and the bytes after it so far. -/
inductive Receiver where
  | hunting
  | started
  | body (length : Nat) (bytes : List Byte)
  deriving DecidableEq, Repr

/-- A byte coming in on a master link (R169): when it began, its samples, and the levels of the input lines at its end. -/
structure Incoming where
  since   : Nat
  samples : ByteSamples
  levels  : LineLevels
  deriving DecidableEq, Repr

/-- One master port: its status record (R178), output queue (R171), pending set and mask (R175), receiver (R170) and
transmitter. -/
structure PortRec where
  rate      : Rate
  badCheck  : Nat
  truncated : Nat
  oversize  : Nat
  busy      : Nat
  slot      : Option Slot
  replies   : List Reply
  pending   : EventSet
  mask      : EventSet
  receiver  : Receiver
  /-- the byte coming in (R169) -/
  incoming  : Option Incoming
  /-- the end of the last byte received (R170) -/
  lastByte  : Nat
  /-- when the last CRC byte of the oldest reply has been sent (R171) -/
  txDone    : Option Nat
  deriving DecidableEq, Repr

/-- R175, R178, R179: a port when full reset ends, at the rate its strap gives. -/
def PortRec.por (rate : Rate) : PortRec where
  rate := rate
  badCheck := 0
  truncated := 0
  oversize := 0
  busy := 0
  slot := none
  replies := []
  pending := 1
  mask := 0x3FFFFF
  receiver := .hunting
  incoming := none
  lastByte := 0
  txDone := none

/-! ## Phase controller (11) -/

/-- R180. -/
inductive Phase where
  | CONFIGURING | RUNNING
  deriving DecidableEq, Repr

/-- The table of a failing item (R184, 12.3). -/
inductive CommitTable where
  | ENGINE | RUDDER | COUPLING | METER | TANK | NODE
  deriving DecidableEq, Repr

/-- The failing item of a commit check (R184): the table, the index (for NODE the line) and the position (for NODE). -/
structure CommitItem where
  table    : CommitTable
  index    : Nat
  position : Nat
  deriving DecidableEq, Repr

/-- The last commit outcome (R180). -/
inductive CommitOutcome where
  | done
  | invalid (check : Nat) (item : Option CommitItem)
  deriving DecidableEq, Repr

/-- The phase record (R180) and the seconds timer (R181). -/
structure PhaseRec where
  phase        : Phase
  seconds      : Nat
  lastCommit   : Option CommitOutcome
  secondsTimer : Option Nat
  deriving DecidableEq, Repr

/-- R180, column POR. -/
def PhaseRec.por : PhaseRec := { phase := .CONFIGURING, seconds := 0, lastCommit := none, secondsTimer := none }

/-! ## The whole part -/

/-- The state of the part. `now`, `choices` and `pending` are the model's own fields (INVENTORY.md, State). -/
structure State where
  /-- time, in units of 1/2,304,000 s (log 1) -/
  now             : Nat
  /-- how many free choices have been made (log 12) -/
  choices         : Nat
  /-- whether full reset is in progress (R187) -/
  inReset         : Bool
  /-- levels of the input lines as last seen (log 6) -/
  levels          : LineLevels
  straps          : Straps
  helm            : Helm
  order           : Order
  params          : Params
  alloc           : Allocation
  passTimer       : Option Nat
  /-- a pass's shares, handed to the engine sequencer and not yet taken (R43) -/
  engineResult    : Option (Vector Int 8)
  /-- a pass's result, handed to the rudder controller and not yet taken (R43) -/
  rudderResult    : Option RudderResult
  engines         : Vector Engine 8
  tripLatch       : PerStation Bool
  totals          : Vector EngineTotals 8
  rudders         : Vector Rudder 8
  steering        : Steering
  couplings       : Vector Coupling 24
  ceilings        : Ceilings
  meters          : Vector Meter 16
  estimationTimer : Option Nat
  tanks           : Vector Tank 8
  channels        : Vector Channel 2
  nextMovement    : Nat
  records         : List MovementRecord
  lines           : PerLine LineCtl
  ports           : PerPort PortRec
  phase           : PhaseRec
  /-- the commands that are waiting, first in first out -/
  pending         : List Instr
  deriving DecidableEq, Repr

/-- All input lines deasserted (log 8). -/
def LineLevels.low : LineLevels where
  trip := { lead := false, helper := false, bow := false }
  takeL := false
  takeH := false

/-- All straps low (log 8). -/
def Straps.low : Straps := { rateL := false, rateH := false, rateE := false }

/-- The rate a strap gives (R169). -/
def rateOf (high : Bool) : Rate := if high then .r460800 else .r115200

/-- Every block at its POR values, with the straps read (R187): the part as full reset ends. -/
def State.por (now choices : Nat) (levels : LineLevels) (straps : Straps) (pending : List Instr) : State where
  now := now
  choices := choices
  inReset := false
  levels := levels
  straps := straps
  helm := Helm.por
  order := Order.por
  params := Params.por
  alloc := Allocation.por
  passTimer := none
  engineResult := none
  rudderResult := none
  engines := Vector.replicate 8 Engine.por
  tripLatch := { lead := false, helper := false, bow := false }
  totals := Vector.replicate 8 { metered := 0, estimated := 0, unaccounted := 0 }
  rudders := Vector.replicate 8 Rudder.por
  steering := Steering.por
  couplings := Vector.replicate 24 Coupling.por
  ceilings := { c := 1000, k := 1000 }
  meters := Vector.replicate 16 Meter.por
  estimationTimer := none
  tanks := Vector.replicate 8 Tank.por
  channels := Vector.replicate 2 Channel.por
  nextMovement := 1
  records := []
  lines := { a := LineCtl.por, b := LineCtl.por }
  ports := { l := PortRec.por (rateOf straps.rateL), h := PortRec.por (rateOf straps.rateH),
             e := PortRec.por (rateOf straps.rateE) }
  phase := PhaseRec.por
  pending := pending

/-- The machine right after reset (R187), with low straps and lines, an empty queue and the clock at 0 (log 8). -/
def State.reset : State := State.por 0 0 LineLevels.low Straps.low []

end Sys2Proof.Machine
end

