-- ==== Sys2Proof/Machine/Flags.lean ====
section
/-! DEFINITION. Events: pending sets, masks and attention lines (R175 to R177, R190). -/

namespace Sys2Proof.Machine

open Sys2Proof

/-- R190: the bit of an event kind is its position in the table. -/
def EventKind.bit (k : EventKind) : Nat := k.ctorIdx

/-- The set of one kind. -/
def EventKind.single (k : EventKind) : EventSet := 1#22 <<< k.bit

/-- How many kinds a set holds. -/
def eventCount (e : EventSet) : Nat := (List.range 22).countP fun n => e.getLsbD n

/-- R171, R177: the kinds pending and enabled, counted. -/
def PortRec.pendingCount (r : PortRec) : Nat := eventCount (r.pending &&& r.mask)

/-- R175: a kind posted becomes pending; a kind already pending stays pending. -/
def PortRec.post (k : EventKind) (r : PortRec) : PortRec := { r with pending := r.pending ||| k.single }

/-- Post a kind to one port (R175). -/
def State.postTo (p : Port) (k : EventKind) (s : State) : State :=
  { s with ports := s.ports.set p ((s.ports.get p).post k) }

/-- Post a kind to all three ports (R175). -/
def State.post (k : EventKind) (s : State) : State :=
  { s with ports := { l := s.ports.l.post k, h := s.ports.h.post k, e := s.ports.e.post k } }

/-- Post a kind to all three ports where a condition holds. -/
def State.postIf (b : Bool) (k : EventKind) (s : State) : State := if b then s.post k else s

/-- R177: a port's attention line is asserted exactly while its pending set and its mask share a kind; R187: it is
deasserted during full reset. -/
def State.attention (s : State) (p : Port) : Bool :=
  !s.inReset && decide ((s.ports.get p).pending &&& (s.ports.get p).mask ≠ 0)

end Sys2Proof.Machine
end

