-- ==== Sys2Proof/Machine/Operands.lean ====
section
/-! DEFINITION. Arithmetic, times, and the encoding of parameters, bodies, bytes and characters (R1, R155, R159, R169,
R188, R191). -/

namespace Sys2Proof.Machine

open Sys2Proof

/-! ## Arithmetic (R1) -/

/-- The value moved into `lo` to `hi`. -/
def clampNat (lo hi v : Nat) : Nat := max lo (min hi v)

/-- The value moved into `lo` to `hi`. -/
def clampInt (lo hi v : Int) : Int := max lo (min hi v)

/-- A saturating counter: it holds at `top` (R1). -/
def satAdd (top a b : Nat) : Nat := min top (a + b)

/-- The 16-bit saturating counters of R1. -/
def bump16 (a : Nat) : Nat := satAdd 65535 a 1

/-- Whether `v` lies from `lo` to `hi`. -/
def within (lo hi v : Nat) : Bool := decide (lo ≤ v) && decide (v ≤ hi)

/-! ## Times (R1; log 1) -/

/-- Units of the clock in a millisecond: the unit 1/2,304,000 s divides the millisecond and every bit time. -/
def unitsPerMs : Nat := 2304

/-- `n` milliseconds. -/
def ms (n : Nat) : Nat := n * unitsPerMs

/-- A bit on a field line, at 57,600 bit/s (R154). -/
def bitTime : Nat := 40

/-- A character on a field line: 11 bit times (R154). -/
def charTime : Nat := 440

/-- R155: sample 7 of the 16 of a start bit has been taken. -/
def glitchTime : Nat := 18

/-- R155: sample 9 of the 16 of the stop bit, the eleventh, has been taken. -/
def stopSampled : Nat := 423

/-- A bit on a master link (R169). -/
def Rate.bitTime : Rate → Nat
  | .r115200 => 20
  | .r460800 => 5

/-- A byte on a master link: 10 bit times (R169). -/
def Rate.byteTime : Rate → Nat
  | .r115200 => 200
  | .r460800 => 50

/-- R169: the centre of a byte's start bit has been reached. -/
def Rate.startDecided : Rate → Nat
  | .r115200 => 10
  | .r460800 => 3

/-- R169: the centre of a byte's stop bit has been reached. -/
def Rate.stopDecided : Rate → Nat
  | .r115200 => 190
  | .r460800 => 48

/-- Milliseconds in a stretch of time; a part of one is rounded as the free value says (log 11). -/
def msOf (u : Nat) : Nat :=
  if u % unitsPerMs = 0 then u / unitsPerMs
  else u / unitsPerMs + (if Config.partialMsUp (u % unitsPerMs) then 1 else 0)

/-- R46, R81: the time since a report was taken, holding at 65,535 ms; 65,535 while there is none. -/
def ageMs (now : Nat) (since : Option Nat) : Nat :=
  match since with
  | none => 65535
  | some t => min 65535 (msOf (now - t))

/-! ## Encoding of bodies (R188) -/

/-- A numeric field in `n` bytes, high byte first. -/
def be : Nat → Nat → List Byte
  | 0, _ => []
  | n + 1, v => BitVec.ofNat 8 (v / 256 ^ n) :: be n v

/-- A signed field in `n` bytes, two's complement. -/
def beInt (n : Nat) (v : Int) : List Byte := be n (v % (256 ^ n : Nat)).toNat

/-- A flag: 0 clear, 1 set. -/
def flag (b : Bool) : List Byte := [if b then 1 else 0]

/-- An optional field: a presence byte, then the value bytes, which are 0 where it is absent. -/
def encOpt {α : Type} (width : Nat) (enc : α → List Byte) : Option α → List Byte
  | none => 0 :: List.replicate width 0
  | some x => 1 :: enc x

/-- A deadline: an optional field of 4 bytes with the milliseconds that remain. -/
def encDeadline (now : Nat) (d : Option Nat) : List Byte := encOpt 4 (fun t => be 4 (msOf (t - now))) d

/-- An enumerated field: one byte, the position in its list. -/
def enumByte (n : Nat) : List Byte := [BitVec.ofNat 8 n]

/-- R188: the port is L 0, H 1, E 2. -/
def bridgeCode : Bridge → Nat
  | .L => 0
  | .H => 1

/-- R190: a set of event kinds in 3 bytes. -/
def encEvents (e : EventSet) : List Byte := be 3 e.toNat

/-- A bound node: line and address, optional. -/
def encNode (n : Option NodeRef) : List Byte :=
  encOpt 2 (fun r => enumByte r.line.ctorIdx ++ be 1 r.address) n

/-- An engine report in a body (R46). -/
def engineReportBody (r : EngineReport) : List Byte :=
  be 2 r.rpm ++ enumByte r.gear.ctorIdx ++ be 2 r.rack ++ enumByte r.fault.ctorIdx

/-- A temperature in a body: 0x8000 is the invalid marker (log 25). -/
def encTemp : Option Int → List Byte
  | none => be 2 0x8000
  | some t => beInt 2 t

/-- The count and temperature of a meter channel in a body (R104). -/
def channelReportBody (r : ChannelReport) : List Byte := be 2 r.count ++ encTemp r.temp

/-- R188: result codes in the order of the table of chapter 10. -/
def Result.code (r : Result) : Byte := BitVec.ofNat 8 r.ctorIdx

/-! ## Enumerated parameters (R188): a value beyond its list reads as none -/

def portOf (b : Byte) : Option Port :=
  match b.toNat with
  | 0 => some .L
  | 1 => some .H
  | 2 => some .E
  | _ => none

def lineOf (b : Byte) : Option Line :=
  match b.toNat with
  | 0 => some .A
  | 1 => some .B
  | _ => none

def stationOf (b : Byte) : Option Station :=
  match b.toNat with
  | 0 => some .LEAD
  | 1 => some .HELPER
  | 2 => some .BOW
  | _ => none

def modeOf (b : Byte) : Option Mode :=
  match b.toNat with
  | 0 => some .STOP
  | 1 => some .TRANSIT
  | 2 => some .MANOEUVRE
  | _ => none

def policyOf (b : Byte) : Option YieldPolicy :=
  match b.toNat with
  | 0 => some .YIELD_ALWAYS
  | 1 => some .YIELD_ON_ANSWER
  | 2 => some .YIELD_NEVER
  | _ => none

def axisOf (b : Byte) : Option Axis :=
  match b.toNat with
  | 0 => some .AHEAD
  | 1 => some .LATERAL
  | _ => none

def sideOf (b : Byte) : Option Side :=
  match b.toNat with
  | 0 => some .PORT
  | 1 => some .CENTRE
  | 2 => some .STARBOARD
  | _ => none

def rudderKindOf (b : Byte) : Option RudderKind :=
  match b.toNat with
  | 0 => some .MAIN
  | 1 => some .FLANKING
  | _ => none

def couplingKindOf (b : Byte) : Option CouplingKind :=
  match b.toNat with
  | 0 => some .FACE
  | 1 => some .FORE_AFT
  | 2 => some .LATERAL
  | _ => none

def meterKindOf (b : Byte) : Option MeterKind :=
  match b.toNat with
  | 0 => some .ENGINE
  | 1 => some .TRANSFER
  | 2 => some .RECEIPT
  | _ => none

def sourceOf (b : Byte) : Option StateSource :=
  match b.toNat with
  | 0 => some .BOOK
  | 1 => some .SOUNDING
  | _ => none

def movementKindOf (b : Byte) : Option MovementKind :=
  match b.toNat with
  | 0 => some .TRANSFER
  | 1 => some .RECEIPT
  | _ => none

def movementModeOf (b : Byte) : Option MovementMode :=
  match b.toNat with
  | 0 => some .COUNT
  | 1 => some .FREE_RUN
  | _ => none

/-- A flag or option: 0 or 1, and any other value none. -/
def flagOf (b : Byte) : Option Bool :=
  match b.toNat with
  | 0 => some false
  | 1 => some true
  | _ => none

/-- An index below `n`. -/
def indexOf (n : Nat) (b : Byte) : Option (Fin n) :=
  if h : b.toNat < n then some ⟨b.toNat, h⟩ else none

/-- An optional parameter: absent, present with its value, or broken by its presence byte. -/
inductive OptValue where
  | absent
  | present (v : Nat)
  | bad
  deriving DecidableEq, Repr

/-- R188: presence 0x00 is absent, 0x01 present, any other value is refused. The value bytes of an absent field are not
looked at (log 39). -/
def readOpt {n : Nat} (o : OptParam n) : OptValue :=
  match o.presence.toNat with
  | 0 => .absent
  | 1 => .present o.value.toNat
  | _ => .bad

/-! ## Checks (10.2, R159) -/

/-- One byte of a CRC with the top bit first: `n` shifts. -/
def crcShift {w : Nat} (poly : BitVec w) : Nat → BitVec w → BitVec w
  | 0, c => c
  | n + 1, c => crcShift poly n (if c.msb then (c <<< 1) ^^^ poly else c <<< 1)

/-- CRC-16: polynomial 0x1021, initial value 0xFFFF, most significant bit first, no reflection, no final XOR (10.2). -/
def crc16 (bytes : List Byte) : Half :=
  bytes.foldl (fun c b => crcShift 0x1021 8 (c ^^^ ((BitVec.setWidth 16 b) <<< (8 : Nat)))) 0xFFFF

/-- CRC-8: polynomial 0x07, initial value 0x00, most significant bit first, no reflection, no final XOR (R159). -/
def crc8 (bytes : List Byte) : Byte := bytes.foldl (fun c b => crcShift 0x07 8 (c ^^^ b)) 0

/-! ## Frames (10.2, R171) -/

/-- The bytes that a request frame's CRC covers: the length through the last parameter. -/
def coveredBytes (f : RequestFrame) : List Byte :=
  BitVec.ofNat 8 (f.params.length + 2) :: f.tag :: f.code :: f.params

/-- R171: the bytes of a reply frame. -/
def Reply.bytes (r : Reply) : List Byte :=
  let covered := BitVec.ofNat 8 (r.body.length + 3) :: r.tag :: r.result.code :: be 1 r.pending ++ r.body
  0x5A :: covered ++ be 2 (crc16 covered).toNat

/-- Bytes a reply takes on the link: start, length, tag, result, pending count, body, CRC. -/
def Reply.size (r : Reply) : Nat := r.body.length + 7

/-- The byte at a place of the parameters. -/
def u8 (ps : List Byte) (i : Nat) : Byte := ps.getD i 0

/-- The 2-byte field at a place of the parameters, high byte first. -/
def u16 (ps : List Byte) (i : Nat) : Half := u8 ps i ++ u8 ps (i + 1)

/-- The 3-byte field at a place of the parameters. -/
def u24 (ps : List Byte) (i : Nat) : BitVec 24 := u16 ps i ++ u8 ps (i + 2)

/-- The 4-byte field at a place of the parameters. -/
def u32 (ps : List Byte) (i : Nat) : BitVec 32 := u16 ps i ++ u16 ps (i + 2)

/-! ## Received bits (R155, R169) -/

/-- The majority of three samples. -/
def majority (x : Samples) : Bool := (x.s1 && x.s2) || (x.s1 && x.s3) || (x.s2 && x.s3)

/-- Whether three samples disagree (R155). -/
def disagree (x : Samples) : Bool := !(x.s1 == x.s2 && x.s2 == x.s3)

/-- The 8 data bits, least significant first. -/
def dataByte (v : Vector Samples 8) : Byte :=
  BitVec.ofNat 8 (v.toList.foldr (fun x n => (if majority x then 1 else 0) + 2 * n) 0)

/-- R155: what the receiver of a field line finds: no character where the start bit is a glitch; else the character, noisy
where the samples of any bit disagree, with a framing error where the stop bit is decided low. -/
def receiveChar (c : CharSamples) : Option RxChar :=
  if majority c.start then none
  else some {
    data := dataByte c.data
    mark := majority c.mark
    noisy := disagree c.start || c.data.toList.any disagree || disagree c.mark || disagree c.stop
    framing := !(majority c.stop) }

/-- R169: the byte of a master link, and whether it carries a framing error. -/
def receiveByte (c : ByteSamples) : Byte × Bool := (dataByte c.data, !(majority c.stop))

/-! ## Sent bits (R154, R169) -/

/-- The 8 bits of a byte, least significant first. -/
def dataBits (b : Byte) : List Bool := (List.finRange 8).map fun i => b.getLsbD i.val

/-- R154: the 11 bits of a character: start bit low, data, mark bit, stop bit high. -/
def TxChar.bits (c : TxChar) : List Bool := false :: dataBits c.data ++ [c.mark, true]

/-- R169: the 10 bits of a byte: start bit low, data, stop bit high. -/
def byteBits (b : Byte) : List Bool := false :: dataBits b ++ [true]

/-! ## Field-line codes (R191) -/

/-- R191: NEUTRAL 0, AHEAD 1, ASTERN 2. -/
def gearLineCode : Gear → Byte
  | .NEUTRAL => 0
  | .AHEAD => 1
  | .ASTERN => 2

def gearOfLine (b : Byte) : Option Gear :=
  match b.toNat with
  | 0 => some .NEUTRAL
  | 1 => some .AHEAD
  | 2 => some .ASTERN
  | _ => none

def faultOfLine (b : Byte) : Option FaultClass :=
  match b.toNat with
  | 0 => some .NONE
  | 1 => some .WARNING
  | 2 => some .DERATE
  | 3 => some .SHUTDOWN
  | _ => none

/-- R191: BRAKE 0, HEAVE 1, RENDER 2, RELEASE 3. -/
def WinchCommand.lineCode (w : WinchCommand) : Byte := BitVec.ofNat 8 w.ctorIdx

def drumOfLine (b : Byte) : Option DrumStatus :=
  match b.toNat with
  | 0 => some .NORMAL
  | 1 => some .RELEASED
  | 2 => some .FAULT
  | _ => none

/-- R191: STOPPED 0, RUNNING 1, FAULT 2. -/
def pumpOfLine (b : Byte) : Option PumpStatus :=
  match b.toNat with
  | 0 => some .STOPPED
  | 1 => some .RUNNING
  | 2 => some .FAULT
  | _ => none

/-- R156: the kind of an entry, by position in its list; R191: the kind code is one more. -/
def Bound.kind (b : Bound) : Nat := b.ctorIdx

/-- R191: the kind code of the kind character. -/
def Bound.kindCode (b : Bound) : Nat := b.kind + 1

/-- R161: the characters of a GOOD reply. -/
def Bound.replyLength : Bound → Nat
  | .engine _ => 9
  | .rudder _ => 5
  | .winch _ => 6
  | .meter _ => 11
  | .tank _ => 7
  | .pump => 4

/-- R191: the kind character, with the attempt in bit 7. -/
def kindChar (b : Bound) (a : Attempt) : Byte :=
  BitVec.ofNat 8 (b.kindCode + (match a with | .FIRST => 0 | .RETRY => 128))

/-- R159: the characters of a poll: address, kind, payload, CRC-8. -/
def pollChars (e : NodeEntry) (a : Attempt) (payload : List Byte) : List TxChar :=
  let data := kindChar e.bound a :: payload
  { mark := true, data := BitVec.ofNat 8 e.address } ::
    (data ++ [crc8 (BitVec.ofNat 8 e.address :: data)]).map fun d => { mark := false, data := d }

/-- A temperature of a meter reply: 0x8000 is the invalid marker (R191). -/
def tempOfLine (t : Half) : Option Int := if t = 0x8000 then none else some t.toInt

/-- R161, R191: the report that a reply payload gives for its kind; none where a coded field lies outside its set or a
numeric field outside its range. -/
def parseReply (b : Bound) (ps : List Byte) : Option NodeReport :=
  match b with
  | .engine _ =>
    match gearOfLine (u8 ps 2), faultOfLine (u8 ps 5) with
    | some g, some f =>
      if (u16 ps 3).toNat ≤ 1000 then some (.engine ⟨(u16 ps 0).toNat, g, (u16 ps 3).toNat, f⟩) else none
    | _, _ => none
  | .rudder _ => some (.rudder (u16 ps 0).toInt)
  | .winch _ =>
    match drumOfLine (u8 ps 2) with
    | some d => if (u16 ps 0).toNat ≤ 2000 then some (.winch ⟨(u16 ps 0).toNat, d⟩) else none
    | none => none
  | .meter _ =>
    some (.meter ⟨⟨(u16 ps 0).toNat, tempOfLine (u16 ps 2)⟩, ⟨(u16 ps 4).toNat, tempOfLine (u16 ps 6)⟩⟩)
  | .tank _ =>
    match flagOf (u8 ps 3) with
    | some v => some (.tank ⟨(u24 ps 0).toNat, v⟩)
    | none => none
  | .pump =>
    match pumpOfLine (u8 ps 0) with
    | some st => some (.pump st)
    | none => none

/-- R161: the report of a reply whose outcome is GOOD, and none where the outcome is CHECK. -/
def judgeReply (e : NodeEntry) (a : Attempt) (chars : List RxChar) : Option NodeReport :=
  let data := chars.map RxChar.data
  if chars.length = e.bound.replyLength
      ∧ chars.map RxChar.mark = true :: List.replicate (e.bound.replyLength - 1) false
      ∧ data.getD 1 0 = kindChar e.bound a
      ∧ data.getLast? = some (crc8 data.dropLast)
      ∧ chars.all (fun c => !c.framing)
  then parseReply e.bound ((data.drop 2).dropLast)
  else none

end Sys2Proof.Machine
end

