-- ==== Sys2Proof/Machine/Ops.lean ====
section
/-! DEFINITION. Operations shared by all blocks: time, replies, the handling of a valid frame (R172), the checks many
requests begin with (R174), and the change of holder (R3). -/

namespace Sys2Proof.Machine

open Sys2Proof

/-- The outcome of every command: a next state. -/
abbrev Out := Host.Outcome State Fault Refusal

/-- R187: while full reset is in progress the part takes nothing and sends nothing, and no event occurs (log 7). -/
def live (s : State) (f : State → State) : Out := .next (if s.inReset then s else f s)

/-! ## Time -/

/-- The clock has reached `t` (log 3). -/
def State.reach (t : Nat) (s : State) : State := { s with now := max s.now t }

/-- A deadline expires: the clock reaches it and `f` acts, told when it was. Where it is absent its expiry does not
occur (R14; log 3). -/
def onExpiry (d : Option Nat) (f : Nat → State → State) (s : State) : State :=
  match d with
  | none => s
  | some t => f t (s.reach t)

/-- The moment `n` ms from now. -/
def State.after (s : State) (n : Nat) : Nat := s.now + ms n

/-! ## Ports, lines and the phase -/

def State.port (s : State) (p : Port) : PortRec := s.ports.get p

def State.setPort (s : State) (p : Port) (r : PortRec) : State := { s with ports := s.ports.set p r }

def State.modPort (s : State) (p : Port) (f : PortRec → PortRec) : State := s.setPort p (f (s.port p))

def State.line (s : State) (l : Line) : LineCtl := s.lines.get l

def State.setLine (s : State) (l : Line) (c : LineCtl) : State := { s with lines := s.lines.set l c }

def State.modLine (s : State) (l : Line) (f : LineCtl → LineCtl) : State := s.setLine l (f (s.line l))

/-- Whether the phase is RUNNING (R180). -/
def State.running (s : State) : Bool := decide (s.phase.phase = .RUNNING)

/-- The bridge port of a port. -/
def bridgeOf : Port → Option Bridge
  | .L => some .L
  | .H => some .H
  | .E => none

/-- The port of a bridge. -/
def portOfBridge : Bridge → Port
  | .L => .L
  | .H => .H

/-- The other bridge. -/
def otherBridge : Bridge → Bridge
  | .L => .H
  | .H => .L

/-! ## Replies (R171) -/

/-- Compose a reply and put it behind the others. Where the transmitter was idle it starts at once; each reply follows
the one before directly (R171). -/
def PortRec.push (now : Nat) (tag : Byte) (result : Result) (body : List Byte) (r : PortRec) : PortRec :=
  let reply : Reply := { tag := tag, result := result, pending := r.pendingCount, body := body }
  { r with
    replies := r.replies ++ [reply]
    txDone := if r.replies.isEmpty then some (now + r.rate.byteTime * reply.size) else r.txDone }

/-- Compose a reply on a port. -/
def State.reply (p : Port) (tag : Byte) (result : Result) (body : List Byte) (s : State) : State :=
  s.modPort p (PortRec.push s.now tag result body)

/-! ## How a request is decided -/

/-- What the owning block hands back to the port: a result and a body, or nothing yet (R8: the claim stays in flight). -/
inductive Decision where
  | answered (result : Result) (body : List Byte)
  | held
  deriving DecidableEq, Repr

/-- The owning block's decision of a request. -/
abbrev Act := State → State × Decision

/-- Answer and change nothing: every refusal, and every request that needs no change. -/
def answer (r : Result) : Act := fun s => (s, .answered r [])

/-- Change the state and answer DONE with an empty body. -/
def doneWith (f : State → State) : Act := fun s => (f s, .answered .DONE [])

/-- A read: DONE with a body, and no change. -/
def readWith (body : State → List Byte) : Act := fun s => (s, .answered .DONE (body s))

/-! ## Checks (R4, R89, R174) -/

/-- A request of a bridge port, in RUNNING: NOT_PERMITTED from port E, then BAD_PHASE in CONFIGURING. -/
def bridgeInRunning (p : Port) (f : Bridge → Act) : Act := fun s =>
  match bridgeOf p with
  | none => answer .NOT_PERMITTED s
  | some b => if s.running then f b s else answer .BAD_PHASE s

/-- A holder-only request: NOT_PERMITTED from port E, BAD_PHASE in CONFIGURING, NOT_HOLDER from a bridge port that does
not hold the helm. -/
def holderOnly (p : Port) (f : Act) : Act :=
  bridgeInRunning p fun b s => if s.helm.holder = some b then f s else answer .NOT_HOLDER s

/-- A request of port E alone. -/
def fuelPortOnly (p : Port) (f : Act) : Act := fun s =>
  match p with
  | .E => f s
  | _ => answer .NOT_PERMITTED s

/-- A request taken in RUNNING. -/
def inRunning (f : Act) : Act := fun s => if s.running then f s else answer .BAD_PHASE s

/-- A request taken in CONFIGURING. -/
def inConfiguring (f : Act) : Act := fun s => if s.running then answer .BAD_PHASE s else f s

/-- An index or a coded choice that must lie in its list: else the request is answered `r`. -/
def orElse {α : Type} (x : Option α) (r : Result) (f : α → Act) : Act :=
  match x with
  | none => answer r
  | some a => f a

/-- A condition that must hold: else the request is answered `r`. -/
def require (b : Bool) (r : Result) (f : Act) : Act := if b then f else answer r

/-! ## The helm unit's shared operations (R3, R9, R17) -/

/-- R17: each valid frame from the holder's port restarts the silence deadline at now + 3,000 ms. -/
def holderNotice (p : Port) (s : State) : State :=
  match bridgeOf p with
  | none => s
  | some b =>
    if s.helm.holder = some b then
      { s with helm := { s.helm with silenceDeadline := some (s.after 3000) } }
    else s

/-- R3: the effects of every change of holder. The decay timer runs while the state is HOLDING (R19). -/
def changeHolder (state : HelmState) (holder : Option Bridge) (s : State) : State :=
  State.post .HELM_CHANGED { s with helm := { s.helm with
    state := state
    holder := holder
    lastHolder := s.helm.holder.or s.helm.lastHolder
    silenceDeadline := holder.map fun _ => s.after 3000
    queryDeadline := none
    requester := none
    decayTimer := if state = .HOLDING then some (s.after 100) else none } }

/-- R9: the query ends with the holder unchanged. -/
def endQuery (s : State) : State :=
  { s with helm := { s.helm with state := .HELD, queryDeadline := none, requester := none } }

/-- R9, R172: the claim in flight on a port is answered, and its slot is free. -/
def answerClaim (b : Option Bridge) (r : Result) (s : State) : State :=
  match b with
  | none => s
  | some b =>
    match (s.port (portOfBridge b)).slot with
    | none => s
    | some slot => (s.reply (portOfBridge b) slot.tag r []).modPort (portOfBridge b) fun q => { q with slot := none }

/-- The query ends in favour of the requester (R10, R13, R15): it becomes holder and its claim is answered GRANTED. -/
def grantRequester (s : State) : State :=
  answerClaim s.helm.requester .GRANTED (changeHolder .HELD s.helm.requester s)

/-! ## A valid frame at a port (R172, R173) -/

/-- The request code of CANCEL (R189). -/
def cancelCode : Byte := 0x03

/-- R172: a valid frame completes on a port. `act` is the owning block's decision, or none where the code is unknown or
the parameter length wrong.
1. With more than 5 replies queued the frame is discarded and counted as busy, and the notice alone is given.
2. The helm unit is given notice. 3. A port with a request in flight answers BUSY, but for CANCEL; that
reply is composed here, and so goes out before the claim's (log 44).
4. BAD_REQUEST. 5, 6. The owning block decides, and the port composes the reply; a claim that is held stays in the
slot. -/
def handleFrame (p : Port) (tag code : Byte) (act : Option Act) (s : State) : State :=
  if 5 < (s.port p).replies.length then
    holderNotice p (s.modPort p fun r => { r with busy := bump16 r.busy })
  else
    let s := holderNotice p s
    if (s.port p).slot.isSome ∧ code ≠ cancelCode then
      (s.modPort p fun r => { r with busy := bump16 r.busy }).reply p tag .BUSY []
    else
      match act with
      | none => s.reply p tag .BAD_REQUEST []
      | some f =>
        match f s with
        | (s', .answered r body) => s'.reply p tag r body
        | (s', .held) => s'.modPort p fun q => { q with slot := some { code := code, tag := tag } }

/-- A request command: a valid frame that carries the request, with a right length, completes on the port (log 4). -/
def request (p : Port) (tag code : Byte) (act : Act) (s : State) : Out :=
  live s (handleFrame p tag code (some act))

/-! ## Objects bound to nodes (R45, R67, R80, R103, R120) -/

/-- The positions of a node list that hold an entry, in order. -/
def LineCtl.entries (c : LineCtl) : List (Fin 32 × NodeEntry) :=
  (List.finRange 32).filterMap fun i => c.nodes[i].map fun e => (i, e)

/-- The first node entry, line A before line B, that is bound to an object. -/
def State.nodeOf (s : State) (b : Bound) : Option NodeRef :=
  match (s.lines.a.entries.find? fun x => decide (x.2.bound = b)), (s.lines.b.entries.find? fun x => decide (x.2.bound = b)) with
  | some x, _ => some { line := .A, address := x.2.address }
  | none, some x => some { line := .B, address := x.2.address }
  | none, none => none

/-- The entry at an address of a line. -/
def State.entryAt (s : State) (r : NodeRef) : Option NodeEntry :=
  ((s.line r.line).entries.find? fun x => decide (x.2.address = r.address)).map Prod.snd

/-- R164: an owner counts a node in ONLINE or SUSPECT as available. -/
def available : NodeState → Bool
  | .ONLINE => true
  | .SUSPECT => true
  | .UNHEARD => false
  | .OFFLINE => false

/-- A hand-over is taken: it no longer waits (log 9). -/
def State.takeHandover (i : Instr) (s : State) : State :=
  { s with lines := { a := { s.lines.a with handovers := s.lines.a.handovers.erase i }
                      b := { s.lines.b with handovers := s.lines.b.handovers.erase i } } }

/-- A hand-over of a line controller is taken by its owner. The lines hand nothing over in CONFIGURING, so there the event
does not occur (R119, R135; log 10). -/
def taken (i : Instr) (f : State → State) (s : State) : Out :=
  live s fun s => if s.running then f (s.takeHandover i) else s

end Sys2Proof.Machine
end

