-- ==== Sys2Proof/Machine/CouplingOps.lean ====
section
/-! DEFINITION. The coupling supervisor's shared operations: the ceilings (R99, R100), a change of state (R85, R98) and the
decision of a winch report (R88, R90 to R92, R94, R97). -/

namespace Sys2Proof.Machine

open Sys2Proof

/-! ## Ceilings (R99, R100) -/

/-- R99: the thrust factor of a state; none where it is not counted. -/
def thrustFactor (p : Params) : CouplingState → Option Nat
  | .MADE_UP => some 1000
  | .STRAINED => some p.strainFactor
  | .RENDERING => some 300
  | .SLACK => some 400
  | .MAKING_UP => some 400
  | .UNKNOWN => some 500
  | .WINCH_FAULT => some 500
  | .RELEASING => some p.releaseThreshold
  | .RELEASED => some p.releaseThreshold
  | .UNUSED => none

/-- R99: the turn factor of a state; none where it is not counted. -/
def turnFactor : CouplingState → Option Nat
  | .MADE_UP => some 1000
  | .STRAINED => some 600
  | .RENDERING => some 300
  | .SLACK => some 700
  | .MAKING_UP => some 700
  | .UNKNOWN => some 500
  | .WINCH_FAULT => some 500
  | .RELEASING => some 500
  | .RELEASED => some 500
  | .UNUSED => none

/-- The factor with which an entry counts toward the thrust ceiling (R80, R99). -/
def Coupling.thrust (p : Params) (c : Coupling) : Option Nat :=
  if c.used && decide (c.cfg.kind ≠ .LATERAL) then thrustFactor p c.state else none

/-- The factor with which an entry counts toward the turn ceiling (R80, R99). -/
def Coupling.turn (c : Coupling) : Option Nat :=
  if c.used && decide (c.cfg.kind ≠ .FORE_AFT) then turnFactor c.state else none

/-- R99: the smallest factor counted, and 1000 where none is. -/
def ceilingOf (f : Coupling → Option Nat) (v : Vector Coupling 24) : Nat :=
  v.toList.foldl (fun m c => match f c with | some x => min m x | none => m) 1000

/-- R99: the ceilings from the states of all couplings. -/
def State.ceilingsNow (s : State) : Ceilings :=
  { c := ceilingOf (Coupling.thrust s.params) s.couplings, k := ceilingOf Coupling.turn s.couplings }

/-- R99, R100: the ceilings are computed and published, with CEILING_CHANGED where one differs from the last published. -/
def State.publishCeilings (s : State) : State :=
  State.postIf (decide (s.ceilingsNow ≠ s.ceilings)) .CEILING_CHANGED { s with ceilings := s.ceilingsNow }

/-! ## A change of state (R85, R98) -/

def State.setCoupling (s : State) (i : Fin 24) (c : Coupling) : State := { s with couplings := s.couplings.set i c }

/-- R85: the winch command of a state. -/
def commandOf : CouplingState → WinchCommand
  | .MAKING_UP => .HEAVE
  | .RENDERING => .RENDER
  | .RELEASING => .RELEASE
  | .RELEASED => .RELEASE
  | _ => .BRAKE

/-- R85: the state deadline set on entry to a state. -/
def State.entryDeadline (s : State) : CouplingState → Option StateDeadline
  | .MAKING_UP => some { kind := .heave, time := s.after 60000 }
  | .RELEASING => some { kind := .release, time := s.after 30000 }
  | _ => none

/-- R85, R98: an entry enters a state. -/
def Coupling.enter (st : CouplingState) (deadline : Option StateDeadline) (c : Coupling) : Coupling :=
  { c with
    state := st
    command := commandOf st
    deadline := deadline
    overloads := if st = .RENDERING then bump16 c.overloads else c.overloads }

/-- R85, R98, R99: a change of state of an entry whose other fields have become those of `c`. COUPLING_CHANGED is posted,
COUPLING_OVERLOAD on an entry to RENDERING, and the ceilings are computed again. -/
def State.enterCoupling (i : Fin 24) (c : Coupling) (st : CouplingState) (s : State) : State :=
  State.publishCeilings (State.postIf (decide (st = .RENDERING)) .COUPLING_OVERLOAD
    (State.post .COUPLING_CHANGED (s.setCoupling i (c.enter st (s.entryDeadline st)))))

/-- R87: the states that fall to UNKNOWN where they cannot be watched. -/
def CouplingState.watched : CouplingState → Bool
  | .SLACK => true
  | .MAKING_UP => true
  | .MADE_UP => true
  | .STRAINED => true
  | .RENDERING => true
  | .RELEASING => true
  | .RELEASED => true
  | _ => false

/-- R87: a coupling that cannot be watched falls to UNKNOWN, its freshness deadline removed; one in UNKNOWN or WINCH_FAULT
keeps its state and takes the fields of `kept`. -/
def State.loseSight (i : Fin 24) (c kept : Coupling) (s : State) : State :=
  if c.state.watched then s.enterCoupling i { c with freshness := none } .UNKNOWN else s.setCoupling i kept

/-! ## The decision of a report -/

/-- R88: the state a report indicates to a coupling in UNKNOWN. -/
def indicated (g : CouplingCfg) (r : WinchReport) : CouplingState :=
  match r.drum with
  | .FAULT => .WINCH_FAULT
  | .RELEASED => .RELEASED
  | .NORMAL =>
    if r.tension < g.slackLevel then .SLACK
    else if r.tension < g.strainLevel then .MADE_UP
    else if r.tension < g.renderLevel then .STRAINED
    else .RENDERING

/-- Whether a tension is at or above target − band. -/
def CouplingCfg.atTarget (g : CouplingCfg) (tension : Nat) : Bool := decide (g.target ≤ tension + g.band)

/-- R88, R90, R91, R94, R97: the state that a report, tested against the state it finds, leads to; none where the state
stays. -/
def reportedState (g : CouplingCfg) (r : WinchReport) (st : CouplingState) : Option CouplingState :=
  match st with
  | .UNUSED => none
  | .WINCH_FAULT => none
  | .UNKNOWN => some (indicated g r)
  | .RELEASING =>
    match r.drum with
    | .FAULT => some .WINCH_FAULT
    | .RELEASED => some .RELEASED
    | .NORMAL => none
  | .RELEASED => if r.drum = .FAULT then some .WINCH_FAULT else none
  | .SLACK =>
    if r.drum = .FAULT then some .WINCH_FAULT
    else if g.renderLevel ≤ r.tension then some .RENDERING
    else if g.atTarget r.tension then some .MADE_UP else none
  | .MAKING_UP =>
    if r.drum = .FAULT then some .WINCH_FAULT
    else if g.renderLevel ≤ r.tension then some .RENDERING
    else if g.atTarget r.tension then some .MADE_UP else none
  | .STRAINED =>
    if r.drum = .FAULT then some .WINCH_FAULT
    else if g.renderLevel ≤ r.tension then some .RENDERING
    else if r.tension ≤ g.recoveryLevel then some .MADE_UP else none
  | .RENDERING =>
    if r.drum = .FAULT then some .WINCH_FAULT
    else if r.tension ≤ g.recoveryLevel then some .MADE_UP else none
  | .MADE_UP =>
    if r.drum = .FAULT then some .WINCH_FAULT
    else if g.renderLevel ≤ r.tension then some .RENDERING
    else if g.strainLevel ≤ r.tension then some .STRAINED else none

/-- R92: the slack dwell of a MADE_UP coupling after a report that leaves it MADE_UP: below the slack level it starts where
no state deadline is present; at or above, a running dwell is removed. -/
def Coupling.watchSlack (dwellEnd tension : Nat) (c : Coupling) : Coupling :=
  if tension < c.cfg.slackLevel then
    { c with deadline := c.deadline.or (some { kind := .slackDwell, time := dwellEnd }) }
  else
    match c.deadline with
    | some { kind := .slackDwell, .. } => { c with deadline := none }
    | _ => c

/-- R86, items 1 to 3: the report is stored, the peak raised and the freshness deadline started. -/
def Coupling.store (now freshUntil : Nat) (r : WinchReport) (c : Coupling) : Coupling :=
  { c with
    lastTension := some r.tension
    lastDrum := some r.drum
    reportAt := some now
    peak := max c.peak r.tension
    freshness := some freshUntil }

/-- R86: a report of a used entry. -/
def State.winchReport (i : Fin 24) (r : WinchReport) (s : State) : State :=
  let c := s.couplings[i].store s.now (s.after 2000) r
  match reportedState c.cfg r c.state with
  | some st => s.enterCoupling i c st
  | none =>
    if c.state = .MADE_UP then s.setCoupling i (c.watchSlack (s.after 10000) r.tension) else s.setCoupling i c

end Sys2Proof.Machine
end

