-- ==== Sys2Proof/Machine/EngineOps.lean ====
section
/-! DEFINITION. The engine sequencer's shared operations: the derived state, caps and eligibility (R48, R52, R53) and the
feed level (R51). -/

namespace Sys2Proof.Machine

open Sys2Proof

/-- R48: the first state in the table whose condition holds. -/
def Engine.derive (e : Engine) : EngineState :=
  if !e.configured then .ABSENT
  else if e.standby then .STANDBY
  else if !e.nodeAvailable then .LOST
  else if e.fault.isSome then .FAULTED
  else if e.feed = .EMPTY then .STARVED
  else if e.derate || e.tracking then .DEGRADED
  else .ONLINE

/-- R52, row "state cap". -/
def stateCap : EngineState → Nat
  | .ONLINE => 1000
  | .DEGRADED => 600
  | _ => 0

/-- R52, row "feed cap". -/
def feedCap (economyCap : Nat) : FeedLevel → Nat
  | .FED => 1000
  | .RESERVE => economyCap
  | .EMPTY => 0

/-- R48, R52, R53: state, caps and eligibility from the conditions and the station's trip latch. -/
def Engine.rederive (latch : Bool) (e : Engine) : Engine :=
  let st := e.derive
  { e with
    state := st
    eligible := (decide (st = .ONLINE) || decide (st = .DEGRADED)) && !latch
    aheadCap := if e.configured then min (stateCap st) (feedCap e.cfg.economyCap e.feed) else 0
    asternCap := if e.configured then min e.cfg.asternLimit (min (stateCap st) (feedCap e.cfg.economyCap e.feed)) else 0 }

/-- R53: what the sequencer does at once with an engine that becomes ineligible. -/
def Engine.toNeutral (dwellUntil : Nat) (e : Engine) : Engine :=
  { e with
    gear := .NEUTRAL
    rpm := e.cfg.idleRpm
    dwell := some dwellUntil
    confirm := none
    trackDeadline := none
    confirmed := false }

/-- An engine derived again; where it has become ineligible, R53 acts. -/
def Engine.settle (latch : Bool) (dwellUntil : Nat) (e : Engine) : Engine :=
  let e' := e.rederive latch
  if e.eligible && !e'.eligible then e'.toNeutral dwellUntil else e'

/-- When a dwell that starts now ends (R62). -/
def State.dwellEnd (s : State) : Nat := s.after s.params.gearDwell

def State.setEngine (s : State) (i : Fin 8) (e : Engine) : State := { s with engines := s.engines.set i e }

/-- R54, R58: slots have become ineligible before a waiting pass result is taken, and its shares for them are not applied: a
slot that is eligible again by then became so after the read, and receives share 0. -/
def State.voidShares (lost : Fin 8 → Bool) (s : State) : State :=
  { s with engineResult := s.engineResult.map fun shares => Vector.ofFn fun i => if lost i then 0 else shares[i] }

/-- A condition of a slot changes by `f`: the sequencer derives the slot again, acts under R53, and posts ENGINE_CHANGED
where the derived state comes out different (R48). -/
def State.updateEngine (i : Fin 8) (f : Engine → Engine) (s : State) : State :=
  let e := s.engines[i]
  let e' := (f e).settle (s.tripLatch.get (f e).cfg.station) s.dwellEnd
  ((s.voidShares fun j => decide (j = i) && (e.eligible && !e'.eligible)).setEngine i e').postIf
    (decide (e'.state ≠ e.state)) .ENGINE_CHANGED

/-- R51: the feed level a tank state gives. -/
def feedLevelOf : Option TankState → FeedLevel
  | some .EMPTY => .EMPTY
  | some .RESERVE => .RESERVE
  | _ => .FED

/-- Whether a slot is configured and draws from the tank. -/
def Engine.fedBy (t : Fin 8) (e : Engine) : Bool := e.configured && decide (e.cfg.feedTank = t)

/-- R51: a tank's state has changed, and the sequencer sets the feed level of every configured slot it feeds. FEED_STARVED
is posted once where at least one of them becomes EMPTY. -/
def State.feedChanged (t : Fin 8) (level : FeedLevel) (s : State) : State :=
  let starved := (List.finRange 8).any fun i =>
    s.engines[i].fedBy t && decide (level = .EMPTY) && decide (s.engines[i].feed ≠ .EMPTY)
  let s' := (List.finRange 8).foldl (fun s i =>
    if s.engines[i].fedBy t then s.updateEngine i (fun e => { e with feed := level }) else s) s
  s'.postIf starved .FEED_STARVED

end Sys2Proof.Machine
end

