-- ==== Sys2Proof/Machine/Engines.lean ====
section
/-! DEFINITION. Engine sequencer (03): requests, reports, monitors, trips, and the setpoint at each pass result. -/

namespace Sys2Proof.Machine

open Sys2Proof

/-! ## READ_ENGINE (R46) -/

/-- R46: the fault latch in a body: clear 0, SHUTDOWN 1, GEAR_MISMATCH 2 (log 25). -/
def faultCode : Option FaultCause → Nat
  | none => 0
  | some .SHUTDOWN => 1
  | some .GEAR_MISMATCH => 2

/-- R45: the configuration fields of a body. -/
def EngineCfg.body (g : EngineCfg) : List Byte :=
  enumByte g.station.ctorIdx ++ enumByte g.axis.ctorIdx ++ enumByte g.side.ctorIdx ++ be 1 g.weight ++ be 2 g.idleRpm
    ++ be 2 g.maxRpm ++ be 2 g.upRamp ++ be 2 g.downRamp ++ be 2 g.asternLimit ++ be 2 g.economyCap ++ be 2 g.ratedRate
    ++ be 1 g.feedTank.val ++ encOpt 1 (fun m => be 1 m.val) g.meter

/-- R46: the conditions of a slot in a body, to the caps. -/
def Engine.conditionsBody (e : Engine) : List Byte :=
  flag e.standby ++ flag e.nodeAvailable ++ enumByte (faultCode e.fault) ++ flag e.derate ++ flag e.tracking
    ++ enumByte e.feed.ctorIdx ++ enumByte e.state.ctorIdx ++ flag e.eligible ++ be 2 e.aheadCap ++ be 2 e.asternCap

/-- R45, R46: every field of the slot. -/
def Engine.body (now : Nat) (e : Engine) : List Byte :=
  flag e.configured ++ e.cfg.body ++ encNode e.node ++ e.conditionsBody ++ enumByte e.gear.ctorIdx
    ++ be 2 e.rpm ++ encOpt 1 (fun g => enumByte g.ctorIdx) e.lastGear ++ encDeadline now e.dwell
    ++ encDeadline now e.confirm ++ flag e.confirmed ++ encDeadline now e.trackDeadline
    ++ encOpt 6 engineReportBody e.lastReport ++ be 2 (ageMs now e.reportAt)

/-- R112: the consumption totals in a body. -/
def EngineTotals.body (t : EngineTotals) : List Byte := beInt 6 t.metered ++ be 6 t.estimated ++ be 4 t.unaccounted

def decideReadEngine (slot : Byte) : Act :=
  orElse (indexOf 8 slot) .BAD_INDEX fun i => readWith fun s => s.engines[i].body s.now ++ s.totals[i].body

def execReadEngine (p : Port) (tag slot : Byte) (s : State) : Out := request p tag 0x18 (decideReadEngine slot) s

/-! ## WRITE_ENGINE (R47) -/

/-- R45: the meter of a slot: an index below 16, or absent. -/
def meterOf (o : OptParam 8) : Option (Option (Fin 16)) :=
  match readOpt o with
  | .absent => some none
  | .present v => if h : v < 16 then some (some ⟨v, h⟩) else none
  | .bad => none

/-- R45, R47: the configuration, where every field lies in the range of its row. -/
def engineCfgOf (c : EngineParams) : Option EngineCfg :=
  match stationOf c.station, axisOf c.axis, sideOf c.side, indexOf 8 c.feedTank, meterOf c.meter with
  | some st, some ax, some sd, some tank, some m =>
    if within 1 100 c.weight.toNat && within 300 1200 c.idleRpm.toNat && within 400 2500 c.maxRpm.toNat
      && within 10 500 c.upRamp.toNat && within 10 1000 c.downRamp.toNat && within 0 1000 c.asternLimit.toNat
      && within 0 1000 c.economyCap.toNat && within 1 2000 c.ratedRate.toNat
    then some {
      station := st, axis := ax, side := sd, weight := c.weight.toNat, idleRpm := c.idleRpm.toNat
      maxRpm := c.maxRpm.toNat, upRamp := c.upRamp.toNat, downRamp := c.downRamp.toNat
      asternLimit := c.asternLimit.toNat, economyCap := c.economyCap.toNat, ratedRate := c.ratedRate.toNat
      feedTank := tank, meter := m }
    else none
  | _, _, _, _, _ => none

/-- R47: the slot after a write; ABSENT where no configuration is given (log 17). -/
def Engine.written (cfg : Option EngineCfg) (e : Engine) : Engine :=
  match cfg with
  | some g => Engine.fresh true g e.node .FED
  | none => Engine.por

/-- R188: what the marker of a WRITE_ request asks: `none` where it is broken, else the configuration to write, where the
marker writes one. -/
def marked {α : Type} (marker : Byte) (cfg : Option α) : Option (Option α) :=
  match marker.toNat with
  | 0 => some none
  | 1 => cfg.map some
  | _ => none

/-- R47, R48: a slot written, with ENGINE_CHANGED where its state comes out different (log 34). -/
def State.writeEngine (i : Fin 8) (cfg : Option EngineCfg) (s : State) : State :=
  let e := s.engines[i].written cfg
  (s.setEngine i e).postIf (decide (e.state ≠ s.engines[i].state)) .ENGINE_CHANGED

def decideWriteEngine (slot marker : Byte) (c : EngineParams) : Act :=
  inConfiguring (orElse (indexOf 8 slot) .BAD_INDEX fun i =>
    orElse (marked marker (engineCfgOf c)) .BAD_VALUE fun cfg => doneWith (State.writeEngine i cfg))

def execWriteEngine (p : Port) (tag slot marker : Byte) (c : EngineParams) (s : State) : Out :=
  request p tag 0x19 (decideWriteEngine slot marker c) s

/-! ## SET_STANDBY, REINSTATE (R56, R57) -/

/-- R56: the checks of the two requests. -/
def holderEngine (p : Port) (slot : Byte) (f : Fin 8 → Act) : Act :=
  holderOnly p (orElse (indexOf 8 slot) .BAD_INDEX fun i s =>
    if s.engines[i].configured then f i s else answer .BAD_VALUE s)

def decideSetStandby (p : Port) (slot : Byte) : Act :=
  holderEngine p slot fun i => doneWith (State.updateEngine i fun e => { e with standby := true })

def execSetStandby (p : Port) (tag slot : Byte) (s : State) : Out := request p tag 0x1A (decideSetStandby p slot) s

/-- R57: what a latched engine must have reported. -/
def Engine.readyToReinstate (e : Engine) : Bool :=
  match e.lastReport with
  | none => false
  | some r => (decide (r.fault = .NONE) || decide (r.fault = .WARNING)) && decide (r.gear = e.gear)

/-- R57. -/
def decideReinstate (p : Port) (slot : Byte) : Act :=
  holderEngine p slot fun i s =>
    let e := s.engines[i]
    if e.fault.isNone && !e.tracking then
      doneWith (State.updateEngine i fun e => { e with standby := false }) s
    else if e.readyToReinstate then
      doneWith (State.updateEngine i fun e => { e with standby := false, fault := none, tracking := false }) s
    else answer .NOT_READY s

def execReinstate (p : Port) (tag slot : Byte) (s : State) : Out := request p tag 0x1B (decideReinstate p slot) s

/-! ## Trips (R54, R55) -/

/-- Whether a slot is configured at a station. -/
def Engine.ofStation (st : Station) (e : Engine) : Bool := e.configured && decide (e.cfg.station = st)

/-- The level of a trip line as sampled (log 6). -/
def State.seeTrip (st : Station) (line : Bool) (s : State) : State :=
  { s with levels := { s.levels with trip := s.levels.trip.set st line } }

/-- R54: the latch is set, and every configured engine of the station is ineligible and in NEUTRAL at idle with a fresh
dwell (log 18); what a waiting pass result holds for it is not applied. -/
def State.tripStation (st : Station) (s : State) : State :=
  State.post .STATION_TRIPPED { s.voidShares fun i => s.engines[i].ofStation st with
    tripLatch := s.tripLatch.set st true
    engines := Vector.ofFn fun i : Fin 8 =>
      if s.engines[i].ofStation st then (s.engines[i].rederive true).toNeutral s.dwellEnd else s.engines[i] }

/-- R54. -/
def tripAsserted (st : Station) (s : State) : State :=
  if s.running ∧ s.tripLatch.get st = false then (s.seeTrip st true).tripStation st else s.seeTrip st true

def execTripLineAsserted (station : Station) (s : State) : Out := live s (tripAsserted station)

/-- R55: the latch is cleared, and the eligibility of the station's engines derived again. -/
def State.clearTrip (st : Station) (s : State) : State :=
  { s with
    tripLatch := s.tripLatch.set st false
    engines := Vector.ofFn fun i : Fin 8 =>
      if s.engines[i].ofStation st then s.engines[i].rederive false else s.engines[i] }

/-- R55. -/
def decideClearTrip (p : Port) (station : Byte) (lines : PerStation Bool) : Act :=
  holderOnly p (orElse (stationOf station) .BAD_VALUE fun st s =>
    if lines.get st then answer .STILL_ASSERTED (s.seeTrip st true)
    else doneWith (State.clearTrip st) (s.seeTrip st false))

def execClearTrip (p : Port) (tag station : Byte) (lines : PerStation Bool) (s : State) : Out :=
  request p tag 0x1C (decideClearTrip p station lines) s

/-! ## From share to setpoint (R58 to R61) -/

/-- R58: the target gear of a share. -/
def targetGear (share : Int) : Gear := if 0 < share then .AHEAD else if share < 0 then .ASTERN else .NEUTRAL

/-- R58: the target rpm of a share. -/
def EngineCfg.targetRpm (g : EngineCfg) (share : Int) : Nat := g.idleRpm + (g.maxRpm - g.idleRpm) * share.natAbs / 1000

/-- R59: a ramp step of a tenth of a second. -/
def rampStep (rate : Nat) : Nat := max 1 (rate / 10)

/-- R59: the rpm one step nearer to the target. -/
def EngineCfg.rampTo (g : EngineCfg) (target rpm : Nat) : Nat :=
  if rpm < target then min target (rpm + rampStep g.upRamp) else max target (rpm - rampStep g.downRamp)

/-- The gear that is engaged, as "last engaged gear" records it. -/
def engagedOf : Gear → Option Engaged
  | .AHEAD => some .AHEAD
  | .ASTERN => some .ASTERN
  | .NEUTRAL => none

/-- R61: engaging a gear. -/
def Engine.engage (g : Gear) (confirmUntil : Nat) (e : Engine) : Engine :=
  { e with gear := g, lastGear := engagedOf g, confirm := some confirmUntil, confirmed := false }

/-- R61: whether an engine in NEUTRAL engages a gear at this pass. -/
def Engine.mayEngage (g : Gear) (e : Engine) : Bool :=
  decide (e.lastGear = none) || decide (e.lastGear = engagedOf g) || e.dwell.isNone

/-- R60: one down step toward idle; at idle the gear becomes NEUTRAL, and a dwell starts. -/
def Engine.rampOut (dwellUntil : Nat) (e : Engine) : Engine :=
  let rpm := max e.cfg.idleRpm (e.rpm - rampStep e.cfg.downRamp)
  if rpm = e.cfg.idleRpm then e.toNeutral dwellUntil else { e with rpm := rpm }

/-- R58 to R61: a share applied to an eligible slot. -/
def Engine.applyShare (dwellUntil confirmUntil : Nat) (share : Int) (e : Engine) : Engine :=
  let g := targetGear share
  if e.gear = .NEUTRAL then
    if g ≠ .NEUTRAL ∧ e.mayEngage g then e.engage g confirmUntil else e
  else if e.gear = g then { e with rpm := e.cfg.rampTo (e.cfg.targetRpm share) e.rpm }
  else e.rampOut dwellUntil

/-- R58: the shares of a pass, applied to each configured slot that is eligible now. -/
def State.applyShares (shares : Vector Int 8) (s : State) : State :=
  { s with engines := Vector.ofFn fun i : Fin 8 =>
    if s.engines[i].configured && s.engines[i].eligible
    then s.engines[i].applyShare s.dwellEnd (s.after 4000) shares[i] else s.engines[i] }

/-- R43, R58: the sequencer takes the result of a pass, where one waits (log 9). -/
def execPassResultTakenEngines (s : State) : Out :=
  live s fun s =>
    match s.engineResult with
    | none => s
    | some shares => State.applyShares shares { s with engineResult := none }

/-! ## Reports, node states and monitors (R49, R50, R63, R64) -/

/-- R50: derate and the fault latch after a report. -/
def Engine.takeFault (f : FaultClass) (e : Engine) : Engine :=
  match f with
  | .NONE => { e with derate := false }
  | .WARNING => { e with derate := false }
  | .DERATE => { e with derate := true }
  | .SHUTDOWN => { e with derate := false, fault := e.fault.or (some .SHUTDOWN) }

/-- R63: the gear confirm monitor. -/
def Engine.confirmMonitor (confirmUntil : Nat) (r : EngineReport) (e : Engine) : Engine :=
  if e.gear = .NEUTRAL then e
  else if e.confirm.isSome then
    if r.gear = e.gear then { e with confirm := none, confirmed := true } else e
  else if e.confirmed ∧ r.gear ≠ e.gear then
    { e with confirmed := false, confirm := some confirmUntil, trackDeadline := none }
  else e

/-- R64: whether two speeds differ by more than the band. -/
def beyondBand (band a b : Nat) : Bool := decide (band < a - b) || decide (band < b - a)

/-- R64: the tracking monitor. -/
def Engine.trackMonitor (band trackUntil : Nat) (r : EngineReport) (e : Engine) : Engine :=
  if e.gear ≠ .NEUTRAL ∧ e.confirmed then
    if beyondBand band r.rpm e.rpm then { e with trackDeadline := e.trackDeadline.or (some trackUntil) }
    else { e with trackDeadline := none }
  else e

/-- R50, R63, R64: a report of a configured slot, stored, acted on, and then checked by the monitors (log 19). -/
def State.engineReport (i : Fin 8) (r : EngineReport) (s : State) : State :=
  let s := s.updateEngine i fun e => { e with lastReport := some r, reportAt := some s.now }.takeFault r.fault
  s.setEngine i ((s.engines[i].confirmMonitor (s.after 4000) r).trackMonitor s.params.trackingBand (s.after 10000) r)

def execEngineReportTaken (slot : Fin 8) (report : EngineReport) (s : State) : Out :=
  taken (.engineReportTaken slot report) (fun s =>
    if s.engines[slot].configured then s.engineReport slot report else s) s

/-- R49. -/
def execEngineNodeStateTaken (slot : Fin 8) (state : NodeState) (s : State) : Out :=
  taken (.engineNodeStateTaken slot state) (fun s =>
    if s.engines[slot].configured then
      s.updateEngine slot fun e => { e with nodeAvailable := available state && e.node.isSome }
    else s) s

/-- R62: the dwell deadline expires and is removed. -/
def execDwellDeadlineExpiry (slot : Fin 8) (s : State) : Out :=
  live s fun s => onExpiry s.engines[slot].dwell
    (fun _ s => s.setEngine slot { s.engines[slot] with dwell := none }) s

/-- R63: the fault latch is set with cause GEAR_MISMATCH, where it was clear. -/
def execGearConfirmExpiry (slot : Fin 8) (s : State) : Out :=
  live s fun s => onExpiry s.engines[slot].confirm
    (fun _ s => s.updateEngine slot fun e =>
      { e with confirm := none, fault := e.fault.or (some .GEAR_MISMATCH) }) s

/-- R64: the tracking latch is set. -/
def execTrackingDeadlineExpiry (slot : Fin 8) (s : State) : Out :=
  live s fun s => onExpiry s.engines[slot].trackDeadline
    (fun _ s => s.updateEngine slot fun e => { e with trackDeadline := none, tracking := true }) s

end Sys2Proof.Machine
end

