-- ==== Sys2Proof/Machine/Couplings.lean ====
section
/-! DEFINITION. Coupling supervisor (05): requests, winch reports and deadlines. -/

namespace Sys2Proof.Machine

open Sys2Proof

/-! ## READ_COUPLING, WRITE_COUPLING (R81, R82) -/

/-- R80: the configuration fields of a body. -/
def CouplingCfg.body (g : CouplingCfg) : List Byte :=
  enumByte g.kind.ctorIdx ++ be 2 g.slackLevel ++ be 2 g.target ++ be 2 g.band ++ be 2 g.strainLevel
    ++ be 2 g.recoveryLevel ++ be 2 g.renderLevel ++ flag g.autoTend

/-- R188: the state deadline adds 1 byte after the presence byte, which names it. -/
def encStateDeadline (now : Nat) (d : Option StateDeadline) : List Byte :=
  encOpt 5 (fun d => enumByte d.kind.ctorIdx ++ be 4 (msOf (d.time - now))) d

/-- R80, R81: every field of the entry. -/
def Coupling.body (now : Nat) (c : Coupling) : List Byte :=
  flag c.used ++ c.cfg.body ++ encNode c.node ++ enumByte c.state.ctorIdx ++ flag c.nodeAvailable
    ++ enumByte c.command.ctorIdx ++ encOpt 2 (be 2) c.lastTension ++ encOpt 1 (fun d => enumByte d.ctorIdx) c.lastDrum
    ++ be 2 (ageMs now c.reportAt) ++ encDeadline now c.freshness ++ encStateDeadline now c.deadline
    ++ be 2 c.overloads ++ be 2 c.peak

def decideReadCoupling (index : Byte) : Act :=
  orElse (indexOf 24 index) .BAD_INDEX fun i => readWith fun s => s.couplings[i].body s.now

def execReadCoupling (p : Port) (tag index : Byte) (s : State) : Out := request p tag 0x28 (decideReadCoupling index) s

/-- R80, R82: the configuration, where every field lies in the range of its row. -/
def couplingCfgOf (c : CouplingParams) : Option CouplingCfg :=
  match couplingKindOf c.kind, flagOf c.autoTend with
  | some k, some tend =>
    if within 0 2000 c.slackLevel.toNat && within 0 2000 c.target.toNat && within 0 1000 c.band.toNat
      && within 0 2000 c.strainLevel.toNat && within 0 2000 c.recoveryLevel.toNat && within 0 2000 c.renderLevel.toNat
    then some {
      kind := k, slackLevel := c.slackLevel.toNat, target := c.target.toNat, band := c.band.toNat
      strainLevel := c.strainLevel.toNat, recoveryLevel := c.recoveryLevel.toNat
      renderLevel := c.renderLevel.toNat, autoTend := tend }
    else none
  | _, _ => none

/-- R82: the entry after a write; UNUSED where no configuration is given (log 17). -/
def Coupling.written (cfg : Option CouplingCfg) (c : Coupling) : Coupling :=
  match cfg with
  | some g => Coupling.fresh true g c.node
  | none => Coupling.por

/-- R82, R85: an entry written, with COUPLING_CHANGED where its state changes (log 34); in CONFIGURING the ceilings keep
1000 (R102). -/
def State.writeCoupling (i : Fin 24) (cfg : Option CouplingCfg) (s : State) : State :=
  let c := s.couplings[i].written cfg
  (s.setCoupling i c).postIf (decide (c.state ≠ s.couplings[i].state)) .COUPLING_CHANGED

def decideWriteCoupling (index marker : Byte) (c : CouplingParams) : Act :=
  inConfiguring (orElse (indexOf 24 index) .BAD_INDEX fun i =>
    orElse (marked marker (couplingCfgOf c)) .BAD_VALUE fun cfg => doneWith (State.writeCoupling i cfg))

def execWriteCoupling (p : Port) (tag index marker : Byte) (c : CouplingParams) (s : State) : Out :=
  request p tag 0x29 (decideWriteCoupling index marker c) s

/-! ## MAKE_UP, RELEASE_COUPLING, RESET_COUPLING, SET_TENSION (R89) -/

/-- R89: the checks of the four requests. -/
def holderCoupling (p : Port) (index : Byte) (f : Fin 24 → Act) : Act :=
  holderOnly p (orElse (indexOf 24 index) .BAD_INDEX fun i s =>
    if s.couplings[i].used then f i s else answer .BAD_VALUE s)

/-- R85, R93, R96, R90: a request that changes the state of an entry. -/
def enterOnRequest (i : Fin 24) (st : CouplingState) : Act :=
  doneWith fun s => s.enterCoupling i s.couplings[i] st

/-- R93: what MAKE_UP does in a state. -/
def makeUpIn (i : Fin 24) (st : CouplingState) : Act :=
  match st with
  | .SLACK => enterOnRequest i .MAKING_UP
  | .RELEASED => enterOnRequest i .MAKING_UP
  | .MADE_UP => enterOnRequest i .MAKING_UP
  | .MAKING_UP => answer .DONE
  | _ => answer .NOT_READY

def decideMakeUp (p : Port) (index : Byte) : Act :=
  holderCoupling p index fun i s => makeUpIn i s.couplings[i].state s

def execMakeUp (p : Port) (tag index : Byte) (s : State) : Out := request p tag 0x2A (decideMakeUp p index) s

/-- R96, item 3: whether the interlock refuses the release of a coupling of that kind. -/
def interlocked (k : CouplingKind) (s : State) : Bool :=
  match k with
  | .LATERAL => decide (s.params.releaseThreshold < s.alloc.uLim.natAbs)
  | _ => decide (s.params.releaseThreshold < s.alloc.tLim.natAbs)

/-- R96. -/
def releaseEntry (i : Fin 24) : Act := fun s =>
  let c := s.couplings[i]
  if c.state = .RELEASING ∨ c.state = .RELEASED then answer .DONE s
  else if !c.nodeAvailable then answer .NODE_UNAVAILABLE s
  else if interlocked c.cfg.kind s then answer .UNSAFE s
  else enterOnRequest i .RELEASING s

def decideReleaseCoupling (p : Port) (index : Byte) : Act := holderCoupling p index releaseEntry

def execReleaseCoupling (p : Port) (tag index : Byte) (s : State) : Out :=
  request p tag 0x2B (decideReleaseCoupling p index) s

/-- R90. -/
def resetEntry (i : Fin 24) : Act := fun s =>
  if s.couplings[i].state = .WINCH_FAULT then enterOnRequest i .UNKNOWN s else answer .DONE s

def decideResetCoupling (p : Port) (index : Byte) : Act := holderCoupling p index resetEntry

def execResetCoupling (p : Port) (tag index : Byte) (s : State) : Out :=
  request p tag 0x2C (decideResetCoupling p index) s

/-- R95, item 1: the band as clamped. -/
def CouplingCfg.clampBand (g : CouplingCfg) (band : Nat) : Nat :=
  clampNat 0 (min ((g.strainLevel - g.slackLevel - 2) / 2) (g.recoveryLevel - g.slackLevel - 1)) band

/-- R95, item 2: the target as clamped, with the clamped band. -/
def CouplingCfg.clampTarget (g : CouplingCfg) (band target : Nat) : Nat :=
  clampNat (g.slackLevel + 1 + band) (min (g.strainLevel - 1 - band) g.recoveryLevel) target

/-- R95. -/
def tensionEntry (target band : Nat) (i : Fin 24) : Act := fun s =>
  let c := s.couplings[i]
  let b := c.cfg.clampBand band
  let t := c.cfg.clampTarget b target
  (s.setCoupling i { c with cfg := { c.cfg with target := t, band := b } },
    .answered (if t = target ∧ b = band then .DONE else .CLAMPED) [])

def decideSetTension (p : Port) (index : Byte) (target band : Half) : Act :=
  holderCoupling p index (tensionEntry target.toNat band.toNat)

def execSetTension (p : Port) (tag index : Byte) (target band : Half) (s : State) : Out :=
  request p tag 0x2D (decideSetTension p index target band) s

/-! ## READ_PEAK, READ_CEILINGS (R98, R100) -/

/-- R98: the peak is read, and starts afresh from the present tension. -/
def readPeakOf (i : Fin 24) : Act := fun s =>
  let c := s.couplings[i]
  (s.setCoupling i { c with peak := c.lastTension.getD 0 }, .answered .DONE (be 2 c.peak))

def decideReadPeak (index : Byte) : Act := orElse (indexOf 24 index) .BAD_INDEX readPeakOf

def execReadPeak (p : Port) (tag index : Byte) (s : State) : Out := request p tag 0x2E (decideReadPeak index) s

/-- R100: the lowest index whose factor equals a ceiling; absent where the ceiling is 1000. -/
def settingIndex (f : Coupling → Option Nat) (v : Vector Coupling 24) (ceiling : Nat) : Option (Fin 24) :=
  if ceiling = 1000 then none else (List.finRange 24).find? fun i => decide (f v[i] = some ceiling)

/-- R100; the order of the items is log 25. -/
def ceilingsBody (s : State) : List Byte :=
  be 2 s.ceilings.c ++ be 2 s.ceilings.k
    ++ encOpt 1 (fun i => be 1 i.val) (settingIndex (Coupling.thrust s.params) s.couplings s.ceilings.c)
    ++ encOpt 1 (fun i => be 1 i.val) (settingIndex Coupling.turn s.couplings s.ceilings.k)
    ++ be 2 s.params.releaseThreshold ++ be 2 s.params.strainFactor

def decideReadCeilings : Act := readWith ceilingsBody

def execReadCeilings (p : Port) (tag : Byte) (s : State) : Out := request p tag 0x2F decideReadCeilings s

/-! ## Reports and node states (R86, R87) -/

def execWinchReportTaken (index : Fin 24) (report : WinchReport) (s : State) : Out :=
  taken (.winchReportTaken index report) (fun s =>
    if s.couplings[index].used then s.winchReport index report else s) s

/-- R87: a change of node state of a used entry. A coupling in UNKNOWN or WINCH_FAULT keeps its deadlines (log 20). -/
def State.winchNode (i : Fin 24) (up : Bool) (s : State) : State :=
  let c := { s.couplings[i] with nodeAvailable := up }
  if up then s.setCoupling i c else s.loseSight i c c

def execWinchNodeStateTaken (index : Fin 24) (state : NodeState) (s : State) : Out :=
  taken (.winchNodeStateTaken index state) (fun s =>
    if s.couplings[index].used then s.winchNode index (available state) else s) s

/-! ## Deadlines (R87, R92, R94, R97) -/

/-- R87: the freshness deadline expires and is removed; a coupling that is watched falls to UNKNOWN. -/
def execFreshnessDeadlineExpiry (index : Fin 24) (s : State) : Out :=
  live s fun s => onExpiry s.couplings[index].freshness
    (fun _ s => s.loseSight index s.couplings[index] { s.couplings[index] with freshness := none }) s

/-- When a state deadline of that kind expires, where it is the one present (R81). -/
def Coupling.deadlineOf (k : StateDeadlineKind) (c : Coupling) : Option Nat :=
  match c.deadline with
  | some d => if d.kind = k then some d.time else none
  | none => none

/-- A state deadline expires, and the entry enters a state (R92, R94, R97). -/
def stateExpiry (k : StateDeadlineKind) (i : Fin 24) (f : Coupling → CouplingState) (s : State) : State :=
  onExpiry (s.couplings[i].deadlineOf k) (fun _ s => s.enterCoupling i s.couplings[i] (f s.couplings[i])) s

/-- R94. -/
def execHeaveDeadlineExpiry (index : Fin 24) (s : State) : Out :=
  live s (stateExpiry .heave index fun _ => .WINCH_FAULT)

/-- R97. -/
def execReleaseDeadlineExpiry (index : Fin 24) (s : State) : Out :=
  live s (stateExpiry .release index fun _ => .WINCH_FAULT)

/-- R92: to MAKING_UP where auto-tend is on, else to SLACK. -/
def execSlackDwellExpiry (index : Fin 24) (s : State) : Out :=
  live s (stateExpiry .slackDwell index fun c => if c.cfg.autoTend then .MAKING_UP else .SLACK)

end Sys2Proof.Machine
end

