-- ==== Sys2Proof/Machine/Helm.lean ====
section
/-! DEFINITION. Helm unit and convoy order (01): the helm requests, the deadlines and the HOLDING decay. -/

namespace Sys2Proof.Machine

open Sys2Proof

/-! ## CLAIM_HELM (R6 to R8) -/

/-- The claimant becomes holder and its request is answered GRANTED (R6, R8, R16). -/
def grantTo (b : Bridge) : Act := fun s => (changeHolder .HELD (some b) s, .answered .GRANTED [])

/-- R8: the yield policy of a bridge port. -/
def Helm.policy (h : Helm) : Bridge → YieldPolicy
  | .L => h.policyL
  | .H => h.policyH

/-- R8, last row: the query opens, and the claim stays in flight. -/
def openQuery (holder claimant : Bridge) : Act := fun s =>
  (State.postTo (portOfBridge holder) .HELM_QUERY
    { s with helm := { s.helm with
      state := .QUERY, requester := some claimant, queryDeadline := some (s.after 10000) } }, .held)

/-- R8: a claim in HELD from the bridge that is not the holder. -/
def claimAgainst (holder claimant : Bridge) : Act := fun s =>
  match s.helm.policy holder with
  | .YIELD_ALWAYS => grantTo claimant s
  | .YIELD_NEVER => answer .DECLINED s
  | .YIELD_ON_ANSWER => openQuery holder claimant s

/-- R6 to R8. A claim of the requester itself in QUERY does not reach the helm unit (R7); it is answered BUSY (log 15). -/
def decideClaimHelm (p : Port) : Act :=
  bridgeInRunning p fun b s =>
    match s.helm.holder with
    | none => grantTo b s
    | some h =>
      if h = b then answer .DONE s
      else if s.helm.state = .QUERY then answer .BUSY s
      else claimAgainst h b s

def execClaimHelm (p : Port) (tag : Byte) (s : State) : Out := request p tag 0x01 (decideClaimHelm p) s

/-! ## ANSWER_HELM (R10) -/

/-- R188: decline 0, accept 1. -/
def choiceOf (b : Byte) : Option Bool := flagOf b

/-- R10: the holder declines: the claim is answered DECLINED and the query ends. -/
def declineQuery (s : State) : State := answerClaim s.helm.requester .DECLINED (endQuery s)

/-- R10. -/
def decideAnswerHelm (p : Port) (choice : Byte) : Act :=
  bridgeInRunning p fun b => orElse (choiceOf choice) .BAD_VALUE fun accept s =>
    if s.helm.state = .QUERY ∧ s.helm.holder = some b then
      doneWith (if accept then grantRequester else declineQuery) s
    else answer .NOTHING_PENDING s

def execAnswerHelm (p : Port) (tag choice : Byte) (s : State) : Out := request p tag 0x02 (decideAnswerHelm p choice) s

/-! ## CANCEL (R11) -/

/-- R11: the query ends, and the claim is answered CANCELLED before the cancel is. -/
def cancelQuery (s : State) : State := answerClaim s.helm.requester .CANCELLED (endQuery s)

/-- R11. -/
def decideCancel (p : Port) : Act :=
  bridgeInRunning p fun b s =>
    if s.helm.state = .QUERY ∧ s.helm.requester = some b then doneWith cancelQuery s else answer .NOTHING_PENDING s

def execCancel (p : Port) (tag : Byte) (s : State) : Out := request p tag cancelCode (decideCancel p) s

/-! ## RELEASE_HELM (R15) -/

/-- R15: the order's demands are set to 0, its mode unchanged. -/
def clearDemands (s : State) : State := { s with order := { s.order with thrust := 0, turn := 0 } }

/-- R15. -/
def decideReleaseHelm (p : Port) : Act :=
  bridgeInRunning p fun b s =>
    if s.helm.holder = some b then
      doneWith (if s.helm.state = .QUERY then grantRequester
        else fun s => clearDemands (changeHolder .UNCLAIMED none s)) s
    else answer .NOT_HOLDER s

def execReleaseHelm (p : Port) (tag : Byte) (s : State) : Out := request p tag 0x04 (decideReleaseHelm p) s

/-! ## TAKE_HELM (R16) -/

/-- The level of a take-over line as sampled (log 6). -/
def State.seeTake (b : Bridge) (line : Bool) (s : State) : State :=
  match b with
  | .L => { s with levels := { s.levels with takeL := line } }
  | .H => { s with levels := { s.levels with takeH := line } }

/-- R16: an asserted take in HELD. -/
def takeFrom (holder taker : Bridge) : Act := fun s =>
  (State.postTo (portOfBridge holder) .HELM_TAKEN
    (changeHolder .HELD (some taker) { s with helm := { s.helm with takeOvers := bump16 s.helm.takeOvers } }),
    .answered .GRANTED [])

/-- R16. A take of the requester in QUERY is answered BUSY at its port (log 15). -/
def decideTakeHelm (p : Port) (line : Bool) : Act :=
  bridgeInRunning p fun b s =>
    match s.helm.holder with
    | none => grantTo b s
    | some h =>
      if h = b then answer .DONE s
      else if s.helm.state = .QUERY then answer .BUSY s
      else if line then takeFrom h b (s.seeTake b line)
      else answer .NOT_PERMITTED (s.seeTake b line)

def execTakeHelm (p : Port) (tag : Byte) (line : Bool) (s : State) : Out := request p tag 0x05 (decideTakeHelm p line) s

/-! ## SET_YIELD_POLICY (R5) -/

def setPolicy (b : Bridge) (y : YieldPolicy) (s : State) : State :=
  match b with
  | .L => { s with helm := { s.helm with policyL := y } }
  | .H => { s with helm := { s.helm with policyH := y } }

/-- R5. -/
def decideSetYieldPolicy (p : Port) (policy : Byte) : Act :=
  bridgeInRunning p fun b => orElse (policyOf policy) .BAD_VALUE fun y => doneWith (setPolicy b y)

def execSetYieldPolicy (p : Port) (tag policy : Byte) (s : State) : Out :=
  request p tag 0x06 (decideSetYieldPolicy p policy) s

/-! ## SET_ORDER (R21) -/

/-- R21: the demand as clamped. -/
def clampDemand (v : Half) : Int := clampInt (-1000) 1000 v.toInt

/-- R21: the order written by the holder. -/
def writeOrder (thrust turn : Half) (mode : Mode) : Act := fun s =>
  ({ s with order := { thrust := clampDemand thrust, turn := clampDemand turn, mode := mode } },
    .answered (if clampDemand thrust = thrust.toInt ∧ clampDemand turn = turn.toInt then .DONE else .CLAMPED) [])

/-- R4, R21. -/
def decideSetOrder (p : Port) (thrust turn : Half) (mode : Byte) : Act :=
  bridgeInRunning p fun b => orElse (modeOf mode) .BAD_VALUE fun m s =>
    if s.helm.holder = some b then writeOrder thrust turn m s else answer .NOT_HOLDER s

def execSetOrder (p : Port) (tag : Byte) (thrust turn : Half) (mode : Byte) (s : State) : Out :=
  request p tag 0x07 (decideSetOrder p thrust turn mode) s

/-! ## READ_HELM (R2; 12.3) -/

/-- A bridge port in a body: an optional port. -/
def encBridge (b : Option Bridge) : List Byte := encOpt 1 (fun b => enumByte (bridgeCode b)) b

/-- 12.3: the 26 bytes of READ_HELM. -/
def helmBody (s : State) : List Byte :=
  enumByte s.helm.state.ctorIdx ++ encBridge s.helm.holder ++ encBridge s.helm.requester
    ++ encDeadline s.now s.helm.queryDeadline ++ encDeadline s.now s.helm.silenceDeadline
    ++ encBridge s.helm.lastHolder ++ be 2 s.helm.takeOvers
    ++ enumByte s.helm.policyL.ctorIdx ++ enumByte s.helm.policyH.ctorIdx
    ++ beInt 2 s.order.thrust ++ beInt 2 s.order.turn ++ enumByte s.order.mode.ctorIdx

def decideReadHelm : Act := readWith helmBody

def execReadHelm (p : Port) (tag : Byte) (s : State) : Out := request p tag 0x08 decideReadHelm s

/-! ## Deadlines and the decay timer -/

/-- R12: the query ends with the claim answered TIMED_OUT. -/
def execQueryDeadlineExpiry (s : State) : Out :=
  live s fun s => onExpiry s.helm.queryDeadline (fun _ s => answerClaim s.helm.requester .TIMED_OUT (endQuery s)) s

/-- R13, R18: the holder is silent. In QUERY the requester becomes holder; in HELD the state becomes HOLDING. -/
def holderSilent (s : State) : State :=
  if s.helm.state = .QUERY then grantRequester s else State.post .HELM_SILENT (changeHolder .HOLDING none s)

def execSilenceDeadlineExpiry (s : State) : Out :=
  live s fun s => onExpiry s.helm.silenceDeadline (fun _ => holderSilent) s

/-- R19: 5 per-mille toward 0. -/
def decay (thrust : Int) : Int := if thrust.natAbs ≤ 5 then 0 else thrust - 5 * thrust.sign

/-- R19. -/
def decayStep (t : Nat) (s : State) : State :=
  { s with order := { s.order with thrust := decay s.order.thrust }, helm := { s.helm with decayTimer := some (t + ms 100) } }

def execDecayTimerExpiry (s : State) : Out := live s fun s => onExpiry s.helm.decayTimer decayStep s

end Sys2Proof.Machine
end

