-- ==== Sys2Proof/Machine/LineOps.lean ====
section
/-! DEFINITION. Shared operations of the field line controllers: composing and sending a poll (R154, R159), rounds (R158),
outcomes (R163, R164), hand-overs (R165), LINE_DOWN (R166), and restarting a line (R167, R168). -/

namespace Sys2Proof.Machine

open Sys2Proof

/-! ## Polls (R142, R154, R159) -/

/-- R142: a pump node's setpoint is RUN while a channel in RUNNING claims it. -/
def State.pumpRuns (s : State) (r : NodeRef) : Bool :=
  s.channels.toList.any fun c => decide (c.state = .RUNNING) && decide (c.pump = some r)

/-- R159, R191: the payload of an entry's poll, from the owner's setpoint as it stands. -/
def State.payloadFor (s : State) (l : Line) (e : NodeEntry) : List Byte :=
  match e.bound with
  | .engine i => be 2 s.engines[i].rpm ++ [gearLineCode s.engines[i].gear]
  | .rudder i => beInt 2 s.rudders[i].commanded
  | .winch i => s.couplings[i].command.lineCode :: be 2 s.couplings[i].cfg.target
  | .pump => flag (s.pumpRuns { line := l, address := e.address })
  | .meter _ => []
  | .tank _ => []

/-- R154: the driver enable output is asserted while the characters of a poll are sent. -/
def LineCtl.driverEnabled (c : LineCtl) : Bool :=
  match c.link with
  | .sending .. => true
  | .stopping .. => true
  | _ => false

/-- R154: the level of the line's transmit output: the bits of the characters sent, back to back, and high while idle. -/
def LineCtl.txLevel (now : Nat) (c : LineCtl) : Bool :=
  match c.link with
  | .sending start _ => (c.sent.flatMap TxChar.bits).getD ((now - start) / bitTime) true
  | .stopping start stop _ => decide (stop ≤ now) || (c.sent.flatMap TxChar.bits).getD ((now - start) / bitTime) true
  | _ => true

/-- R155: since when a character is in progress; an edge whose start bit is decided high begins none. -/
def LineReceiver.characterSince : LineReceiver → Option Nat
  | .sampling since x _ => if majority x.start then none else some since
  | _ => none

/-- R162: from when the line has been quiet for 1 ms, for a transmission due since `since`. Characters received break the
quiet; one that the controller itself was still sending after a RESTART_LINE does not (log 42). -/
def LineCtl.quietFrom (c : LineCtl) (since : Nat) : Nat :=
  match c.lastChar with
  | none => since
  | some t => max since (t + ms 1)

/-- R162: whether the line, with no character in progress, is quiet for 1 ms within 10 ms of `since`. -/
def LineCtl.quietInTime (c : LineCtl) (since : Nat) : Bool :=
  c.receiver.characterSince.isNone && decide (c.quietFrom since ≤ since + ms 10)

/-- R162: when the controller transmits because the line is quiet. -/
def LineCtl.transmitAt (c : LineCtl) : Option Nat :=
  match c.link with
  | .due since => if c.quietInTime since then some (c.quietFrom since) else none
  | _ => none

/-- R162: when the controller transmits anyway, the line not having been quiet within 10 ms. -/
def LineCtl.giveUpAt (c : LineCtl) : Option Nat :=
  match c.link with
  | .due since => if c.quietInTime since then none else some (since + ms 10)
  | _ => none

/-- Send the poll of an entry with an attempt and a payload (R154: its characters back to back). A character in progress on
the line is lost; the controller's own transmission drives the line high, so that a receiver that waited for that searches
(log 43). -/
def LineCtl.send (now : Nat) (i : Fin 32) (e : NodeEntry) (a : Attempt) (payload : List Byte) (c : LineCtl) : LineCtl :=
  { c with
    position := some i
    attempt := some a
    payload := payload
    sent := pollChars e a payload
    link := .sending now (now + charTime * (pollChars e a payload).length)
    receiver := .searching
    lateTail := none }

/-- R159: compose and send. A poll whose first attempt has failed sends its retry, with the payload of the first attempt;
else the poll of the position next to visit begins, with the owner's setpoint as it stands. -/
def State.transmit (l : Line) (s : State) : State :=
  let c := s.line l
  match c.cursor with
  | none => s
  | some i =>
    match c.nodes[i] with
    | none => s
    | some e =>
      if c.attempt = some .FIRST then s.setLine l (c.send s.now i e .RETRY c.payload)
      else s.setLine l (c.send s.now i e .FIRST (s.payloadFor l e))

/-! ## Rounds (R158) -/

/-- Whether an entry is polled in a round: an OFFLINE one only where the round number is a multiple of 8. -/
def NodeEntry.visited (round : Nat) (e : NodeEntry) : Bool := decide (e.state ≠ .OFFLINE) || decide (round % 8 = 0)

/-- The first position from `start` on that the round visits. -/
def LineCtl.nextIn (c : LineCtl) (start : Nat) : Option (Fin 32) :=
  (List.finRange 32).find? fun i => decide (start ≤ i.val) &&
    match c.nodes[i] with
    | some e => e.visited c.round
    | none => false

/-- The round is complete. -/
def LineCtl.completeRound (c : LineCtl) : LineCtl :=
  { c with round := (c.round + 1) % 65536, roundsCompleted := (c.roundsCompleted + 1) % 4294967296 }

/-- The next position to visit, from `start` of this round on; a round in which nothing is left to visit completes, and
the next begins. Of 8 rounds in a row one polls every entry, so 9 are enough (log 28). -/
def LineCtl.advance : Nat → Nat → LineCtl → LineCtl
  | 0, _, c => { c with cursor := none }
  | n + 1, start, c =>
    match c.nextIn start with
    | some i => { c with cursor := some i }
    | none => LineCtl.advance n 0 c.completeRound

/-- The lowest position of the list, from which round 0 begins. -/
def LineCtl.beginRounds (c : LineCtl) : LineCtl := { c with round := 0, cursor := { c with round := 0 }.nextIn 0 }

/-- Whether the list is empty (R156). -/
def LineCtl.isEmpty (c : LineCtl) : Bool := c.entries.isEmpty

/-- The poll has ended: position and attempt in progress are absent, and the next transmission is due. -/
def LineCtl.endPoll (now : Nat) (i : Fin 32) (c : LineCtl) : LineCtl :=
  { LineCtl.advance 9 (i.val + 1) c with position := none, attempt := none, link := .due now }

/-! ## Hand-overs (R165) -/

/-- Who is handed a change of an entry's state. -/
def stateHandovers (l : Line) (e : NodeEntry) (st : NodeState) : List Instr :=
  match e.bound with
  | .engine i => [.engineNodeStateTaken i st]
  | .rudder i => [.rudderNodeStateTaken i st]
  | .winch i => [.winchNodeStateTaken i st]
  | .meter i => [.meterNodeStateTaken i st, .movementNodeStateTaken (.meter i) st]
  | .tank i => [.tankNodeStateTaken i st]
  | .pump => [.movementNodeStateTaken (.pump l e.address) st]

/-- Who is handed a GOOD report. -/
def reportHandovers (l : Line) (e : NodeEntry) (r : NodeReport) : List Instr :=
  match e.bound, r with
  | .engine i, .engine r => [.engineReportTaken i r]
  | .rudder i, .rudder a => [.rudderReportTaken i a]
  | .winch i, .winch r => [.winchReportTaken i r]
  | .meter i, .meter r => [.meterReportTaken i r]
  | .tank i, .tank r => [.tankReportTaken i r]
  | .pump, .pump st => [.pumpReportTaken l e.address st]
  | _, _ => []

def LineCtl.setEntry (c : LineCtl) (i : Fin 32) (e : NodeEntry) : LineCtl := { c with nodes := c.nodes.set i (some e) }

/-- Change the entry at a position, where there is one. -/
def LineCtl.modEntry (i : Fin 32) (f : NodeEntry → NodeEntry) (c : LineCtl) : LineCtl :=
  match c.nodes[i] with
  | none => c
  | some e => c.setEntry i (f e)

/-! ## Outcomes (R163, R164, R166) -/

/-- R163, R164: the entry after a GOOD poll. -/
def NodeEntry.good (r : NodeReport) (e : NodeEntry) : NodeEntry :=
  { e with state := .ONLINE, failures := 0, lastReport := some r }

/-- R164: the state after a failed poll, with the failures that result. -/
def failedState (failures : Nat) : NodeState → NodeState
  | .UNHEARD => if 3 ≤ failures then .OFFLINE else .UNHEARD
  | .ONLINE => .SUSPECT
  | .SUSPECT => if 3 ≤ failures then .OFFLINE else .SUSPECT
  | .OFFLINE => .OFFLINE

/-- How a retry failed (R163). -/
inductive Failure where
  | TIMEOUT | CHECK
  deriving DecidableEq, Repr

/-- R163, R164: the entry after a failed poll. -/
def NodeEntry.failed (f : Failure) (e : NodeEntry) : NodeEntry :=
  let failures := satAdd 3 e.failures 1
  { e with
    timeout := if f = .TIMEOUT then bump16 e.timeout else e.timeout
    check := if f = .CHECK then bump16 e.check else e.check
    failures := failures
    state := failedState failures e.state }

/-- R164, R165, R166: a poll has left an entry as `e`. A change of state posts NODE_CHANGED and is handed to the owners; a
change to ONLINE clears the line down reported flag; a change that leaves every entry OFFLINE while it is clear sets it
and posts LINE_DOWN. -/
def State.settleEntry (l : Line) (i : Fin 32) (old e : NodeEntry) (s : State) : State :=
  let c := (s.line l).setEntry i e
  if e.state = old.state then s.setLine l c
  else
    let down := c.entries.all fun x => decide (x.2.state = .OFFLINE)
    State.postIf (down && !c.lineDown) .LINE_DOWN (State.post .NODE_CHANGED (s.setLine l { c with
      handovers := c.handovers ++ stateHandovers l e e.state
      lineDown := if e.state = .ONLINE then false else c.lineDown || down }))

/-- The poll of an entry ends GOOD (R163 to R165): the report is stored, the state settled, the report handed over after
it, and the poll is over. -/
def State.pollGood (l : Line) (i : Fin 32) (e : NodeEntry) (r : NodeReport) (s : State) : State :=
  (s.settleEntry l i e (e.good r)).modLine l fun c =>
    LineCtl.endPoll s.now i { c with handovers := c.handovers ++ reportHandovers l e r }

/-- An attempt fails (R163): the first is followed by the retry, due now; the retry ends the poll as failed. -/
def State.attemptFailed (l : Line) (f : Failure) (s : State) : State :=
  let c := s.line l
  match c.position, c.attempt with
  | some i, some .RETRY =>
    match c.nodes[i] with
    | none => s
    | some e => (s.settleEntry l i e (e.failed f)).modLine l (LineCtl.endPoll s.now i)
  | _, _ => s.setLine l { c with link := .due s.now }

/-! ## Receiving (R160 to R162) -/

/-- The entry being polled. -/
def LineCtl.polled (c : LineCtl) : Option (Fin 32 × NodeEntry) :=
  match c.position with
  | none => none
  | some i => c.nodes[i].map fun e => (i, e)

/-- The last character of the reply is more than 1 ms back at that time. -/
def LineCtl.gapAt (c : LineCtl) : Nat := (c.lastChar.getD 0) + ms 1 + 1

/-- When the gap after the last character ends the reply; a character in progress, which began before that, ends the gap. -/
def LineCtl.gapEndsAt (c : LineCtl) : Option Nat := if c.receiver.characterSince.isSome then none else some c.gapAt

/-- R161: when the reply in progress, or the late reply in progress, ends: at one character more than the length of its
kind, or at a gap of more than 1 ms. -/
def LineCtl.replyEndsAt (c : LineCtl) : Option Nat :=
  match c.link, c.polled with
  | .window _ _ (.reply chars), some (_, e) =>
    if e.bound.replyLength < chars.length then some (c.lastChar.getD 0) else c.gapEndsAt
  | .window _ _ (.late n), some (_, e) =>
    if e.bound.replyLength < n then some (c.lastChar.getD 0) else c.gapEndsAt
  | _, _ => if c.lateTail.isSome then c.gapEndsAt else none

/-- R161: the counters a reply adds to: framing once where any character carries an error; noise once where a GOOD reply
has a noisy character. -/
def NodeEntry.countReply (good : Bool) (chars : List RxChar) (e : NodeEntry) : NodeEntry :=
  { e with
    framing := if chars.any RxChar.framing then bump16 e.framing else e.framing
    noise := if good && chars.any RxChar.noisy then bump16 e.noise else e.noise }

/-- R161, R163: the outcome of a reply that has ended. -/
def State.judge (l : Line) (i : Fin 32) (e : NodeEntry) (chars : List RxChar) (s : State) : State :=
  match judgeReply e ((s.line l).attempt.getD .FIRST) chars with
  | some r => s.pollGood l i (e.countReply true chars) r
  | none => (s.modLine l (LineCtl.modEntry i (NodeEntry.countReply false chars))).attemptFailed l .CHECK

/-- R160, R161: the end of what is being received. A reply is judged. After a late reply the controller
waits on where the window is open, and the attempt is TIMEOUT where it has closed. -/
def State.endReception (l : Line) (s : State) : State :=
  let c := s.line l
  match c.link, c.polled with
  | .window _ _ (.reply chars), some (i, e) => s.judge l i e chars
  | .window t o (.late _), some _ =>
    if o then s.setLine l { c with link := .window t o .waiting } else s.attemptFailed l .TIMEOUT
  | _, _ => s.setLine l { c with lateTail := none }

/-- R160: the window closes. Where a reply has begun, it goes on; else the attempt is TIMEOUT, and the rest of a late reply
still counts for the entry (log 23). -/
def State.closeWindow (l : Line) (s : State) : State :=
  let c := s.line l
  match c.link with
  | .window t _ (.reply chars) => s.setLine l { c with link := .window t false (.reply chars) }
  | .window _ _ .waiting => s.attemptFailed l .TIMEOUT
  | .window _ _ (.late n) =>
    (s.setLine l { c with lateTail := c.position.map fun i => (i, n) }).attemptFailed l .TIMEOUT
  | _ => s

/-- When the reply window of an attempt closes; absent where it has closed. -/
def LineCtl.windowClosesAt (c : LineCtl) : Option Nat :=
  match c.link with
  | .window t true _ => some t
  | _ => none

/-- R160: strays of an entry. -/
def NodeEntry.strays (n : Nat) (e : NodeEntry) : NodeEntry := { e with stray := satAdd 65535 e.stray n }

/-- R162: a stray of the line. -/
def LineCtl.lineStray (c : LineCtl) : LineCtl := { c with strays := satAdd 4294967295 c.strays 1 }

/-- R160, R191: the kind character of a reply carries the other attempt, in its bit 7; its other bits are not looked at
(log 40). -/
def otherAttempt (a : Option Attempt) (ch : RxChar) : Bool :=
  !ch.mark && (ch.data.msb != decide (a = some .RETRY))

/-- R160 to R162: a character received while the driver is not enabled. -/
def LineCtl.receive (ch : RxChar) (c : LineCtl) : LineCtl :=
  match c.link, c.polled with
  | .window t true .waiting, some (i, e) =>
    if ch.mark ∧ ch.data.toNat = e.address + 128 then { c with link := .window t true (.reply [ch]) }
    else c.modEntry i (NodeEntry.strays 1)
  | .window t o (.reply chars), some (i, _) =>
    if chars.length = 1 ∧ otherAttempt c.attempt ch then
      { c.modEntry i (NodeEntry.strays 2) with link := .window t o (.late 2) }
    else { c with link := .window t o (.reply (chars ++ [ch])) }
  | .window t o (.late n), some (i, _) =>
    { c.modEntry i (NodeEntry.strays 1) with link := .window t o (.late (n + 1)) }
  | _, _ =>
    match c.lateTail with
    | some (i, n) =>
      match c.nodes[i] with
      | some e =>
        if e.bound.replyLength < n then { c with lateTail := none }.lineStray
        else { c.modEntry i (NodeEntry.strays 1) with lateTail := some (i, n + 1) }
      | none => c.lineStray
    | none => c.lineStray

/-- Whether the reply in progress has had one character more than the length of its kind (R161). -/
def LineCtl.overlong (c : LineCtl) : Bool :=
  match c.link, c.polled with
  | .window _ _ (.reply chars), some (_, e) => decide (e.bound.replyLength < chars.length)
  | .window _ _ (.late n), some (_, e) => decide (e.bound.replyLength < n)
  | _, _ => false

/-- When what is being received has ended by the time `now`, though its end has not been decided yet (R161; log 24). -/
def LineCtl.endedBy (c : LineCtl) (now : Nat) : Option Nat :=
  match c.replyEndsAt with
  | none => none
  | some t => if c.overlong ∨ t ≤ now then some t else none

/-- A reply that has ended before an edge is decided first, at the time it ended. -/
def State.endFirst (l : Line) (s : State) : State :=
  match (s.line l).endedBy s.now with
  | none => s
  | some t => { State.endReception l { s with now := t } with now := s.now }

/-! ## The receiver (R154, R155) -/

/-- R155: when the samples that began at an edge have been taken: a glitch's at sample 7 of its start bit, a character's at
the end of its stop bit. -/
def LineReceiver.endsAt : LineReceiver → Option Nat
  | .sampling since x _ => some (since + if majority x.start then glitchTime else charTime)
  | _ => none

/-- R155: from when the next falling edge is looked for: after a glitch's sample 7, or after sample 9 of the stop bit where
the line is high there (log 41) or has risen since. -/
def LineReceiver.freeFrom : LineReceiver → Option Nat
  | .sampling since x risen =>
    if majority x.start then some (since + glitchTime)
    else if x.stop.s3 || risen then some (since + stopSampled) else none
  | _ => none

/-- R155: the receiver after a character: it waits where the line is low at sample 9 of the stop bit and has not risen
since. -/
def receiverAfter (x : CharSamples) (risen : Bool) : LineReceiver :=
  if majority x.start || x.stop.s3 || risen then .searching else .waitingHigh

/-- R154, R160 to R162: a character received, whose end is `t`. -/
def State.charIn (l : Line) (t : Nat) (ch : RxChar) (s : State) : State :=
  s.modLine l fun c => { c.receive ch with lastChar := some t }

/-- R155: what began at an edge is over; a character is received, a glitch is none. -/
def State.charEnds (l : Line) (s : State) : State :=
  match (s.line l).receiver with
  | .sampling since x risen =>
    let s := s.modLine l fun c => { c with receiver := receiverAfter x risen }
    match receiveChar x with
    | none => s
    | some ch => s.charIn l (since + charTime) ch
  | _ => s

/-- What the receiver is at is over where it looks for an edge again. -/
def State.freeReceiver (l : Line) (s : State) : State :=
  match (s.line l).receiver.freeFrom with
  | none => s
  | some t => if t ≤ s.now then s.charEnds l else s

/-- R154, R155: the line falls. A receiver that searches takes the edge, after what it had received before has been decided;
while the driver is enabled nothing is received. -/
def State.edge (l : Line) (x : CharSamples) (s : State) : State :=
  if (s.line l).driverEnabled then s
  else
    let s := s.freeReceiver l
    if (s.line l).receiver = .searching then
      (s.endFirst l).modLine l fun c => { c with receiver := .sampling s.now x false }
    else s

/-- R155: the line is high. A receiver that waits for that searches again; one that has taken sample 9 of a stop bit need
not wait for it any more. -/
def LineReceiver.high (now : Nat) : LineReceiver → LineReceiver
  | .waitingHigh => .searching
  | .sampling since x risen => .sampling since x (risen || decide (since + stopSampled ≤ now))
  | .searching => .searching

/-- R155: the line returns to high. -/
def LineCtl.lineHigh (now : Nat) (c : LineCtl) : LineCtl := { c with receiver := c.receiver.high now }

/-! ## Restart, commit and reconfigure (R167, R168) -/

/-- R167: the end of the character being sent at `now`, of a transmission that began at `start` and would end at `stop`. -/
def charEnd (start stop now : Nat) : Nat := min stop (start + ((now - start) / charTime + 1) * charTime)

/-- R167: the poll in progress is abandoned, and a transmission is due, from now on (log 37); one under way stops after the
character being sent (log 29). -/
def LineCtl.abandon (now : Nat) (c : LineCtl) : LineCtl :=
  { c with
    position := none
    attempt := none
    lateTail := none
    link := match c.link with
      | .sending start stop => .stopping start (charEnd start stop now) now
      | .stopping start stop _ => .stopping start stop now
      | _ => .due now }

/-- R167: every entry UNHEARD with no failures. -/
def LineCtl.unhear (c : LineCtl) : LineCtl :=
  { c with nodes := Vector.ofFn fun i : Fin 32 => c.nodes[i].map fun e => { e with state := .UNHEARD, failures := 0 } }

/-- The entries whose state UNHEARD changes. -/
def LineCtl.heard (c : LineCtl) : List (Fin 32 × NodeEntry) :=
  c.entries.filter fun x => decide (x.2.state ≠ .UNHEARD)

/-- R167: RESTART_LINE on a line. -/
def State.restartLine (l : Line) (s : State) : State :=
  let c := s.line l
  if c.isEmpty then s
  else
    State.postIf (!c.heard.isEmpty) .NODE_CHANGED (s.setLine l { ((c.abandon s.now).unhear).beginRounds with
      handovers := c.handovers ++ c.heard.flatMap fun x => stateHandovers l x.2 .UNHEARD })

/-- A line with nothing to send becomes idle; a character being sent still ends. -/
def Link.rest : Link → Link
  | .stopping start stop since => .stopping start stop since
  | _ => .idle

/-- R168: a line at commit. -/
def LineCtl.commit (now : Nat) (c : LineCtl) : LineCtl :=
  let c := { ((c.abandon now).unhear).beginRounds with lineDown := false, handovers := [] }
  if c.isEmpty then { c with activity := .IDLE, link := c.link.rest } else { c with activity := .POLLING }

/-- R168: a line at reconfigure. What the owners take at reconfigure they set in the same step (log 9). The round number is
kept (log 45). -/
def LineCtl.reconfigure (now : Nat) (c : LineCtl) : LineCtl :=
  let d := (c.abandon now).unhear
  { d with activity := .IDLE, cursor := none, handovers := [], link := d.link.rest }

/-- R168: reconfigure of both lines. -/
def State.reconfigureLines (s : State) : State :=
  State.postIf (!s.lines.a.heard.isEmpty || !s.lines.b.heard.isEmpty) .NODE_CHANGED
    { s with lines := { a := s.lines.a.reconfigure s.now, b := s.lines.b.reconfigure s.now } }

end Sys2Proof.Machine
end

