-- ==== Sys2Proof/Machine/Lines.lean ====
section
/-! DEFINITION. Field line controllers (09): requests, transmissions, reply windows and received characters. -/

namespace Sys2Proof.Machine

open Sys2Proof

/-! ## WRITE_NODE (R156) -/

/-- R156: the bound object that a kind and an optional number give; absent for PUMP alone. -/
def boundOf (kind : Nat) (o : OptValue) : Option Bound :=
  match kind, o with
  | 0, .present v => if h : v < 8 then some (.engine ⟨v, h⟩) else none
  | 1, .present v => if h : v < 8 then some (.rudder ⟨v, h⟩) else none
  | 2, .present v => if h : v < 24 then some (.winch ⟨v, h⟩) else none
  | 3, .present v => if h : v < 16 then some (.meter ⟨v, h⟩) else none
  | 4, .present v => if h : v < 8 then some (.tank ⟨v, h⟩) else none
  | 5, .absent => some .pump
  | _, _ => none

/-- R156: the entry a write gives, where its fields pass. -/
def nodeOfParams (c : NodeParams) : Option NodeEntry :=
  match boundOf c.kind.toNat (readOpt c.bound) with
  | some b => if within 1 120 c.address.toNat then some (NodeEntry.fresh b c.address.toNat) else none
  | none => none

/-- R156: a position written or emptied. -/
def State.writeNode (l : Line) (i : Fin 32) (e : Option NodeEntry) (s : State) : State :=
  s.modLine l fun c => { c with nodes := c.nodes.set i e }

def decideWriteNode (line position marker : Byte) (c : NodeParams) : Act :=
  inConfiguring (orElse (lineOf line) .BAD_INDEX fun l => orElse (indexOf 32 position) .BAD_INDEX fun i =>
    orElse (marked marker (nodeOfParams c)) .BAD_VALUE fun e => doneWith (State.writeNode l i e))

def execWriteNode (p : Port) (tag line position marker : Byte) (c : NodeParams) (s : State) : Out :=
  request p tag 0x48 (decideWriteNode line position marker c) s

/-! ## READ_NODE, READ_LINE (R157) -/

/-- The number of a bound object. -/
def Bound.number : Bound → Option Nat
  | .engine i => some i.val
  | .rudder i => some i.val
  | .winch i => some i.val
  | .meter i => some i.val
  | .tank i => some i.val
  | .pump => none

/-- How many bytes the last report of a kind takes in a body (log 25). -/
def Bound.reportWidth : Bound → Nat
  | .engine _ => 6
  | .rudder _ => 2
  | .winch _ => 3
  | .meter _ => 8
  | .tank _ => 4
  | .pump => 1

/-- The last report in a body, with the enumerations of R188 (log 25). -/
def NodeReport.body : NodeReport → List Byte
  | .engine r => engineReportBody r
  | .rudder a => beInt 2 a
  | .winch r => be 2 r.tension ++ enumByte r.drum.ctorIdx
  | .meter r => channelReportBody r.ch1 ++ channelReportBody r.ch2
  | .tank r => be 3 r.level ++ flag r.valid
  | .pump st => enumByte st.ctorIdx

/-- R156: the fields of an entry. -/
def NodeEntry.body (e : NodeEntry) : List Byte :=
  enumByte e.bound.kind ++ be 1 e.address ++ encOpt 1 (be 1) e.bound.number ++ enumByte e.state.ctorIdx
    ++ be 1 e.failures ++ be 2 e.noise ++ be 2 e.framing ++ be 2 e.check ++ be 2 e.timeout ++ be 2 e.stray
    ++ encOpt e.bound.reportWidth NodeReport.body e.lastReport

/-- R157: an entry, or the empty marker (log 25). -/
def nodeBody : Option NodeEntry → List Byte
  | some e => 1 :: e.body
  | none => [0]

/-- R157: the clear option of READ_NODE. -/
def NodeEntry.clearCounters (e : NodeEntry) : NodeEntry :=
  { e with noise := 0, framing := 0, check := 0, timeout := 0, stray := 0 }

/-- R157: the reply carries the values held before a clear. -/
def readNodeAt (l : Line) (i : Fin 32) (clear : Bool) : Act := fun s =>
  (if clear then s.modLine l (LineCtl.modEntry i NodeEntry.clearCounters) else s,
    .answered .DONE (nodeBody (s.line l).nodes[i]))

def decideReadNode (line position clear : Byte) : Act :=
  orElse (lineOf line) .BAD_INDEX fun l => orElse (indexOf 32 position) .BAD_INDEX fun i =>
    orElse (flagOf clear) .BAD_VALUE (readNodeAt l i)

def execReadNode (p : Port) (tag line position clear : Byte) (s : State) : Out :=
  request p tag 0x49 (decideReadNode line position clear) s

/-- R157: the line record and the number of entries. -/
def LineCtl.body (c : LineCtl) : List Byte :=
  enumByte c.activity.ctorIdx ++ be 2 c.round ++ encOpt 1 (fun i => be 1 i.val) c.position
    ++ encOpt 1 (fun a => enumByte a.ctorIdx) c.attempt ++ be 4 c.strays ++ be 4 c.roundsCompleted ++ flag c.lineDown
    ++ be 1 c.entries.length

/-- R157: the clear option of READ_LINE. -/
def LineCtl.clearStrays (c : LineCtl) : LineCtl := { c with strays := 0 }

/-- R157. -/
def readLineOf (l : Line) (clear : Bool) : Act := fun s =>
  (if clear then s.modLine l LineCtl.clearStrays else s, .answered .DONE (s.line l).body)

def decideReadLine (line clear : Byte) : Act :=
  orElse (lineOf line) .BAD_INDEX fun l => orElse (flagOf clear) .BAD_VALUE (readLineOf l)

def execReadLine (p : Port) (tag line clear : Byte) (s : State) : Out := request p tag 0x4A (decideReadLine line clear) s

/-! ## RESTART_LINE (R167) -/

def decideRestartLine (line : Byte) : Act :=
  orElse (lineOf line) .BAD_INDEX fun l => inRunning (doneWith (State.restartLine l))

def execRestartLine (p : Port) (tag line : Byte) (s : State) : Out := request p tag 0x4B (decideRestartLine line) s

/-! ## Transmissions (R154, R159, R162, R167) -/

/-- R162: the line is quiet, and the poll due is composed and sent. -/
def execPollTransmit (line : Line) (s : State) : Out :=
  live s fun s => onExpiry (s.line line).transmitAt (fun _ => State.transmit line) s

/-- R162: the line has not been quiet within 10 ms, and the poll due is composed and sent anyway. -/
def execQuietWaitTimeout (line : Line) (s : State) : Out :=
  live s fun s => onExpiry (s.line line).giveUpAt (fun _ => State.transmit line) s

/-- When the transmission on a line ends. -/
def LineCtl.transmissionEndsAt (c : LineCtl) : Option Nat :=
  match c.link with
  | .sending _ stop => some stop
  | .stopping _ stop _ => some stop
  | _ => none

/-- R154, R160, R167: the last character has been sent and the driver is disabled. The reply window of the attempt opens;
after an abandoned poll the next transmission is due, or in CONFIGURING none. -/
def LineCtl.endTransmission (t : Nat) (c : LineCtl) : LineCtl :=
  match c.link with
  | .sending _ _ => { c with link := .window (t + ms 5) true .waiting }
  | .stopping _ _ since => { c with link := if c.activity = .POLLING then .due since else .idle }
  | _ => c

def execPollTransmissionEnd (line : Line) (s : State) : Out :=
  live s fun s => onExpiry (s.line line).transmissionEndsAt
    (fun t s => s.modLine line (LineCtl.endTransmission t)) s

/-! ## Reception (R155, R160 to R162) -/

def execReplyWindowClose (line : Line) (s : State) : Out :=
  live s fun s => onExpiry (s.line line).windowClosesAt (fun _ => State.closeWindow line) s

def execReplyEnd (line : Line) (s : State) : Out :=
  live s fun s => onExpiry (s.line line).replyEndsAt (fun _ => State.endReception line) s

/-- R155: the line falls, what began at an edge is over, or the line is high again. -/
def execFieldCharacterReceived (line : Line) (event : CharEvent) (s : State) : Out :=
  live s fun s =>
    match event with
    | .edge x => s.edge line x
    | .ends => onExpiry (s.line line).receiver.endsAt (fun _ => State.charEnds line) s
    | .high => s.modLine line (LineCtl.lineHigh s.now)

end Sys2Proof.Machine
end

