-- ==== Sys2Proof/Machine/FuelOps.lean ====
section
/-! DEFINITION. Shared operations of the fuel chain: stopping and closing a movement (R145, R150), the state of a tank
(R126 to R128), the discrepancy monitor (R130), and the bookings (R123, R124, R143). -/

namespace Sys2Proof.Machine

open Sys2Proof

/-! ## Movements (08) -/

/-- R136: a channel in RUNNING or SETTLING is open. -/
def Channel.isOpen (c : Channel) : Bool := decide (c.state ≠ .IDLE)

/-- R137: an open channel claims its destination and its source. -/
def Channel.claimsTank (c : Channel) (t : Fin 8) : Bool :=
  c.isOpen && (decide (c.destination = some t) || decide (c.source = some t))

/-- R137. -/
def Channel.claimsMeter (c : Channel) (m : Fin 16) : Bool := c.isOpen && decide (c.meter = some m)

/-- R137. -/
def Channel.claimsPump (c : Channel) (r : NodeRef) : Bool := c.isOpen && decide (c.pump = some r)

/-- The channel, 0 before 1, for which a claim holds. -/
def State.channelWhere (s : State) (f : Channel → Bool) : Option (Fin 2) :=
  (List.finRange 2).find? fun i => f s.channels[i]

def State.setChannel (s : State) (i : Fin 2) (c : Channel) : State := { s with channels := s.channels.set i c }

/-- R145: the first stop reason to reach a RUNNING channel; a channel in another state is not changed. -/
def State.stopChannel (i : Fin 2) (reason : StopReason) (s : State) : State :=
  let c := s.channels[i]
  if c.state = .RUNNING then
    s.setChannel i { c with
      state := .SETTLING
      stopReason := some reason
      stopSecond := some s.phase.seconds
      settling := some (s.after 5000)
      zeroReports := 0 }
  else s

/-- R150, item 1: the record of a channel that closes. -/
def Channel.record (c : Channel) (endSecond : Nat) : MovementRecord where
  number := c.number
  kind := c.kind
  source := c.source
  destination := c.destination
  mode := c.mode
  target := c.target
  moved := c.moved
  runOn := c.runOn
  overflow := c.overflow
  wraps := c.wraps
  stopReason := c.stopReason
  startSecond := c.startSecond
  endSecond := endSecond

/-- R150: the record is appended, the settling deadline removed, the channel IDLE and MOVEMENT_ENDED posted. A channel that
is not SETTLING does not close (R149). -/
def State.closeChannel (i : Fin 2) (s : State) : State :=
  let c := s.channels[i]
  if c.state = .SETTLING then
    State.post .MOVEMENT_ENDED
      ({ s with records := s.records ++ [c.record s.phase.seconds] }.setChannel i
        { c with state := .IDLE, settling := none })
  else s

/-- R146: the movement controller takes a tank's new state. -/
def State.movementTankState (t : Fin 8) (st : TankState) (s : State) : State :=
  (List.finRange 2).foldl (fun s i =>
    let c := s.channels[i]
    if c.state = .RUNNING ∧ c.kind = some .TRANSFER ∧ c.source = some t ∧ (st = .RESERVE ∨ st = .EMPTY) then
      s.stopChannel i .SOURCE_RESERVE
    else if c.state = .RUNNING ∧ c.destination = some t ∧ st = .HIGH then
      s.stopChannel i .DESTINATION_HIGH
    else s) s

/-! ## Tank state (07) -/

/-- Litres in standard millilitres (R127). -/
def litres (l : Nat) : Int := (l : Int) * 1000

/-- R126: the level used. -/
def Tank.levelUsed (t : Tank) : Int :=
  match t.cfg.source, t.soundingValid, t.sounding with
  | .SOUNDING, true, some l => litres l
  | _, _, _ => t.account.book

/-- R125: the ullage. -/
def Tank.ullage (t : Tank) : Int := clampInt 0 (litres t.cfg.capacity) (litres t.cfg.capacity - t.account.book)

/-- R127: the state one step down, where the condition to go down across the boundary below holds. -/
def stepDown (c : TankCfg) (level : Int) : TankState → Option TankState
  | .HIGH => if level < litres c.high - litres c.hysteresis then some .NORMAL else none
  | .NORMAL => if level ≤ litres c.low then some .LOW else none
  | .LOW => if level ≤ litres c.reserve then some .RESERVE else none
  | .RESERVE => if level ≤ litres c.empty then some .EMPTY else none
  | .EMPTY => none

/-- R127: the state one step up, where the condition to go up across the boundary above holds. -/
def stepUp (c : TankCfg) (level : Int) : TankState → Option TankState
  | .EMPTY => if litres c.empty + litres c.hysteresis < level then some .RESERVE else none
  | .RESERVE => if litres c.reserve + litres c.hysteresis < level then some .LOW else none
  | .LOW => if litres c.low + litres c.hysteresis < level then some .NORMAL else none
  | .NORMAL => if litres c.high ≤ level then some .HIGH else none
  | .HIGH => none

/-- R127: one test of the derivation: down where that holds, else up where that holds. -/
def stepState (c : TankCfg) (level : Int) (st : TankState) : Option TankState :=
  match stepDown c level st with
  | some st' => some st'
  | none => stepUp c level st

/-- R127: the derivation, test after test, until neither condition holds. A derivation goes one way and crosses at most
four boundaries, so 5 tests end it. -/
def deriveFrom (c : TankCfg) (level : Int) : Nat → TankState → TankState
  | 0, st => st
  | n + 1, st =>
    match stepState c level st with
    | none => st
    | some st' => deriveFrom c level n st'

/-- R127: the state derived from a present state and a level used. -/
def deriveTankState (c : TankCfg) (level : Int) (st : TankState) : TankState := deriveFrom c level 5 st

def State.setTank (s : State) (i : Fin 8) (t : Tank) : State := { s with tanks := s.tanks.set i t }

/-- R127, R128: the fuel account derives the state of a used tank again; where it changes, TANK_CHANGED is posted and the
new state handed to the engine sequencer and the movement controller, which take it with the derivation. In CONFIGURING
no state is derived. A used tank without a state, which no commit leaves, starts from NORMAL as commit does (log 26). -/
def State.deriveTank (i : Fin 8) (s : State) : State :=
  let t := s.tanks[i]
  if t.used && s.running then
    let st := deriveTankState t.cfg t.levelUsed (t.state.getD .NORMAL)
    if t.state = some st then s
    else
      ((State.post .TANK_CHANGED (s.setTank i { t with state := some st })).feedChanged i
        (feedLevelOf (some st))).movementTankState i st
  else s

/-- R130: one test of the discrepancy monitor, with the values as they stand. -/
def Tank.discTest (now : Nat) (t : Tank) : Tank :=
  match t.used, t.soundingValid, t.sounding with
  | true, true, some l =>
    if t.cfg.limit < (t.account.book.tdiv 1000 - (l : Int)).natAbs then
      if t.discDeadline.isNone && !t.discrepancy then { t with discDeadline := some (now + ms 60000) } else t
    else { t with discDeadline := none, discrepancy := false }
  | _, _, _ => t

/-- R130: test a tank. -/
def State.discTest (i : Fin 8) (s : State) : State := s.setTank i (s.tanks[i].discTest s.now)

/-- R130: sounding valid becomes no: the deadline is removed, and the flag keeps its value. -/
def Tank.soundingLost (t : Tank) : Tank := { t with soundingValid := false, discDeadline := none }

/-! ## Bookings (R123, R124) -/

/-- The four kinds of booking (R123). -/
inductive Booking where
  | consumed | received | transferIn | transferOut
  deriving DecidableEq, Repr

/-- A signed 32-bit book and a 48-bit total (R121). -/
def bookMin : Int := -2147483648
def bookMax : Int := 2147483647
def totalMax : Int := 140737488355327

/-- R123, R124: one booking at one tank. A value carried beyond its range stops at its limit and sets the flag; the other
fields are changed in full. -/
def Account.book' (b : Booking) (v : Int) (a : Account) : Account :=
  let sum (x : Int) : Int := clampInt (-totalMax) totalMax (x + v)
  let beyond (x : Int) : Bool := decide (sum x ≠ x + v)
  let dv : Int := match b with | .consumed => -v | .received => v | .transferIn => v | .transferOut => -v
  let book := clampInt bookMin bookMax (a.book + dv)
  let bookOver := decide (book ≠ a.book + dv)
  match b with
  | .consumed => { a with book := book, consumed := sum a.consumed, saturated := a.saturated || bookOver || beyond a.consumed }
  | .received => { a with book := book, received := sum a.received, saturated := a.saturated || bookOver || beyond a.received }
  | .transferIn =>
    { a with book := book, transferIn := sum a.transferIn, saturated := a.saturated || bookOver || beyond a.transferIn }
  | .transferOut =>
    { a with book := book, transferOut := sum a.transferOut, saturated := a.saturated || bookOver || beyond a.transferOut }

/-- The fields of a used tank that a booking touches (R123). -/
def State.bookFields (b : Booking) (v : Int) (i : Fin 8) (s : State) : State :=
  let t := s.tanks[i]
  if t.used then s.setTank i { t with account := t.account.book' b v } else s

/-- R123: a booking to one tank, then the derivation of its state and a discrepancy test. -/
def State.bookTank (b : Booking) (v : Int) (i : Fin 8) (s : State) : State :=
  ((s.bookFields b v i).deriveTank i).discTest i

/-- R123, R146: a transfer books the same volume out of its source and into its destination as one booking, and the
state of the source is derived first. -/
def State.bookTransfer (v : Int) (src dst : Fin 8) (s : State) : State :=
  let s := (s.bookFields .transferOut v src).bookFields .transferIn v dst
  (((s.deriveTank src).deriveTank dst).discTest src).discTest dst

/-- 2^32 (R136). -/
def twoPow32 : Nat := 4294967296

/-- R143, items 1 and 2: moved, its wraps, and in SETTLING the run-on and the zero-report count (R149). -/
def Channel.bookMoved (q : Nat) (zeroDelta : Bool) (c : Channel) : Channel :=
  let wrapped := decide (twoPow32 ≤ c.moved + q)
  let c := { c with
    moved := if wrapped then c.moved + q - twoPow32 else c.moved + q
    overflow := c.overflow || wrapped
    wraps := if wrapped then bump16 c.wraps else c.wraps }
  if c.state = .SETTLING then
    { c with runOn := satAdd (twoPow32 - 1) c.runOn q, zeroReports := if zeroDelta then min 2 (c.zeroReports + 1) else 0 }
  else c

/-- R144: whether a booking in RUNNING and COUNT mode has reached the count. -/
def Channel.countReached (c : Channel) : Bool :=
  match c.target with
  | some l => decide (c.state = .RUNNING) && decide (c.mode = some .COUNT) && decide (l * 1000 ≤ c.moved)
  | none => false

/-- R143, item 4: the booking the fuel account is handed. -/
def State.bookMovementTanks (c : Channel) (q : Nat) (s : State) : State :=
  match c.kind, c.source, c.destination with
  | some .RECEIPT, _, some d => s.bookTank .received q d
  | some .TRANSFER, some src, some d => s.bookTransfer q src d
  | _, _, _ => s

/-- R143, R144, R149: a volume that the meter unit hands to an open channel. The report that brings the zero-report count
to 2 closes the movement after its booking. -/
def State.bookMovement (i : Fin 2) (q : Nat) (zeroDelta : Bool) (s : State) : State :=
  let c := s.channels[i].bookMoved q zeroDelta
  let s1 := s.setChannel i c
  let s2 := if c.countReached then s1.stopChannel i .COUNT_REACHED else s1
  let s3 := s2.bookMovementTanks c q
  if c.state = .SETTLING ∧ c.zeroReports = 2 then s3.closeChannel i else s3

end Sys2Proof.Machine
end

