-- ==== Sys2Proof/Machine/Meters.lean ====
section
/-! DEFINITION. Meter unit (06): requests, reports, node states and estimation. -/

namespace Sys2Proof.Machine

open Sys2Proof

def State.setMeter (s : State) (i : Fin 16) (m : Meter) : State := { s with meters := s.meters.set i m }

/-! ## READ_METER (R104) -/

/-- R103: the configuration fields of a body. -/
def MeterCfg.body (g : MeterCfg) : List Byte :=
  enumByte g.kind.ctorIdx ++ encOpt 1 (fun e => be 1 e.val) g.engine ++ be 2 g.weight1 ++ be 2 g.weight2
    ++ be 2 g.alpha ++ be 2 g.limit

/-- R104: the two channels of an entry in a body, field by field. -/
def Meter.channelsBody (m : Meter) : List Byte :=
  encOpt 2 (be 2) m.ch1.baseline ++ encOpt 2 (be 2) m.ch2.baseline ++ be 3 m.ch1.residue ++ be 3 m.ch2.residue
    ++ flag m.ch1.tempInvalid ++ flag m.ch2.tempInvalid
    ++ encOpt 4 channelReportBody m.ch1.last ++ encOpt 4 channelReportBody m.ch2.last

/-- R103, R104: every field of the entry. -/
def Meter.body (m : Meter) : List Byte :=
  flag m.used ++ m.cfg.body ++ encNode m.node ++ m.channelsBody ++ flag m.nodeAvailable ++ flag m.heard
    ++ be 4 m.excess ++ be 2 m.implausible ++ be 4 m.stray ++ flag m.estimating ++ be 2 m.estResidue
    ++ be 2 m.heldRack ++ be 1 m.rackHold

/-- R104: the clear option. -/
def Meter.cleared (m : Meter) : Meter := { m with excess := 0, implausible := 0, stray := 0 }

/-- R104: the read of an entry; with the clear option the reply carries the values held before the clear. -/
def readMeterOf (i : Fin 16) (clear : Bool) : Act := fun s =>
  (if clear then s.setMeter i s.meters[i].cleared else s, .answered .DONE s.meters[i].body)

/-- R104: NOT_PERMITTED for the clear option from L or H, then the index, then a broken clear option (R188; log 16). -/
def decideReadMeter (p : Port) (index clear : Byte) : Act :=
  require (!(decide (clear = 1) && decide (p ≠ .E))) .NOT_PERMITTED
    (orElse (indexOf 16 index) .BAD_INDEX fun i => orElse (flagOf clear) .BAD_VALUE (readMeterOf i))

def execReadMeter (p : Port) (tag index clear : Byte) (s : State) : Out :=
  request p tag 0x30 (decideReadMeter p index clear) s

/-! ## WRITE_METER, SET_METER (R105, R106) -/

/-- R103: the linked engine: a slot below 8, or absent. -/
def linkedOf (o : OptParam 8) : Option (Option (Fin 8)) :=
  match readOpt o with
  | .absent => some none
  | .present v => if h : v < 8 then some (some ⟨v, h⟩) else none
  | .bad => none

/-- R103, R105: the configuration, where every field lies in the range of its row. -/
def meterCfgOf (c : MeterParams) : Option MeterCfg :=
  match meterKindOf c.kind, linkedOf c.engine with
  | some k, some e =>
    if within 1 1000 c.weight1.toNat && within 1 1000 c.weight2.toNat && within 0 2000 c.alpha.toNat
      && within 1 65535 c.limit.toNat
    then some {
      kind := k, engine := e, weight1 := c.weight1.toNat, weight2 := c.weight2.toNat, alpha := c.alpha.toNat
      limit := c.limit.toNat }
    else none
  | _, _ => none

/-- R105: the entry after a write; UNUSED where no configuration is given (log 17). -/
def Meter.written (cfg : Option MeterCfg) (m : Meter) : Meter :=
  match cfg with
  | some g => Meter.fresh true g m.node
  | none => Meter.por

def decideWriteMeter (index marker : Byte) (c : MeterParams) : Act :=
  inConfiguring (orElse (indexOf 16 index) .BAD_INDEX fun i =>
    orElse (marked marker (meterCfgOf c)) .BAD_VALUE fun cfg =>
      doneWith fun s => s.setMeter i (s.meters[i].written cfg))

def execWriteMeter (p : Port) (tag index marker : Byte) (c : MeterParams) (s : State) : Out :=
  request p tag 0x31 (decideWriteMeter index marker c) s

/-- R106: the live fields as clamped. -/
def writeLive (alpha limit : Nat) (i : Fin 16) : Act := fun s =>
  let m := s.meters[i]
  if m.used then
    let a := clampNat 0 2000 alpha
    let l := clampNat 1 65535 limit
    (s.setMeter i { m with cfg := { m.cfg with alpha := a, limit := l } },
      .answered (if a = alpha ∧ l = limit then .DONE else .CLAMPED) [])
  else answer .BAD_VALUE s

def decideSetMeter (p : Port) (index : Byte) (alpha limit : Half) : Act :=
  fuelPortOnly p (inRunning (orElse (indexOf 16 index) .BAD_INDEX (writeLive alpha.toNat limit.toNat)))

def execSetMeter (p : Port) (tag index : Byte) (alpha limit : Half) (s : State) : Out :=
  request p tag 0x32 (decideSetMeter p index alpha limit) s

/-! ## Reports (R107 to R113, R118) -/

/-- R110: the correction factor in millionths. -/
def factor (alpha : Nat) (temp : Option Int) : Nat :=
  (1000000 - ((alpha : Int) * ((temp.map (clampInt (-200) 900)).getD 150 - 150)).tdiv 10).toNat

/-- What a channel makes of its part of a report: the pulse delta, absent where the report set the baseline, the standard
volume, the pulses beyond the limit, and the channel after it. -/
structure Counted where
  delta   : Option Nat
  q       : Nat
  excess  : Nat
  channel : MeterChannel
  deriving DecidableEq, Repr

/-- R107, R108, R110: what a report does to a channel in any case: it is stored, the baseline settled and the temperature
flag set or cleared (log 22). -/
def MeterChannel.settle (r : ChannelReport) (c : MeterChannel) : MeterChannel :=
  { c with baseline := some r.count, tempInvalid := r.temp.isNone, last := some r }

/-- R108 to R111: a channel of a report. -/
def MeterChannel.count (weight alpha limit : Nat) (r : ChannelReport) (c : MeterChannel) : Counted :=
  match c.baseline with
  | none => { delta := none, q := 0, excess := 0, channel := c.settle r }
  | some b =>
    let delta := (r.count + 65536 - b) % 65536
    let total := min delta limit * weight * factor alpha r.temp + c.residue
    { delta := some delta
      q := total / 1000000
      excess := delta - limit
      channel := { c.settle r with residue := total % 1000000 } }

/-- Whether a channel of a report was implausible (R109). -/
def Counted.beyondLimit (x : Counted) : Bool := decide (0 < x.excess)

/-- 2^32 − 1. -/
def max32 : Nat := 4294967295

/-- R109: the excess and the implausible count after a channel of a report. -/
def Meter.countExcess (x : Counted) (m : Meter) : Meter :=
  { m with
    excess := satAdd max32 m.excess x.excess
    implausible := if x.beyondLimit then bump16 m.implausible else m.implausible }

/-- R112: saturation of the metered total. -/
def addMetered (net total : Int) : Int := clampInt (-totalMax) totalMax (total + net)

/-- R112: a net booked as consumption to an engine and to its feed tank. -/
def State.bookMetered (e : Fin 8) (net : Int) (s : State) : State :=
  { s with totals := s.totals.set e { s.totals[e] with metered := addMetered net s.totals[e].metered } }.bookTank
    .consumed net s.engines[e].cfg.feedTank

/-- R118: a report that ends an estimation. -/
def Meter.endEstimation (r : MeterReport) (m : Meter) : Meter :=
  { m with
    ch1 := m.ch1.settle r.ch1
    ch2 := m.ch2.settle r.ch2
    estimating := false
    heldRack := 0
    rackHold := 0 }

/-- R107 to R112: a report of an ENGINE meter. One report gives one booking; one that sets both baselines books nothing. -/
def State.engineMeterReport (i : Fin 16) (r : MeterReport) (s : State) : State :=
  let m := s.meters[i]
  let x := m.ch1.count m.cfg.weight1 m.cfg.alpha m.cfg.limit r.ch1
  let y := m.ch2.count m.cfg.weight2 m.cfg.alpha m.cfg.limit r.ch2
  let s := (s.setMeter i (({ m with ch1 := x.channel, ch2 := y.channel }.countExcess x).countExcess y)).postIf
    (x.beyondLimit || y.beyondLimit) .METER_IMPLAUSIBLE
  match m.cfg.engine with
  | some e => if x.delta.isSome || y.delta.isSome then s.bookMetered e ((x.q : Int) - y.q) else s
  | none => s

/-- R113: a volume that no movement claims is stray flow. -/
def State.strayFlow (i : Fin 16) (q : Nat) (s : State) : State :=
  (s.setMeter i { s.meters[i] with stray := satAdd max32 s.meters[i].stray q }).postIf (decide (0 < q)) .STRAY_FLOW

/-- R107 to R111, R113: a report of a TRANSFER or RECEIPT meter, which uses channel 1 alone (R103); channel 2 is stored and
its baseline settled (log 21), and its temperature invalid flag stays as it is (log 35). -/
def State.flowMeterReport (i : Fin 16) (r : MeterReport) (s : State) : State :=
  let m := s.meters[i]
  let x := m.ch1.count m.cfg.weight1 m.cfg.alpha m.cfg.limit r.ch1
  let s := (s.setMeter i ({ m with
      ch1 := x.channel
      ch2 := { m.ch2 with baseline := some r.ch2.count, last := some r.ch2 } }.countExcess x)).postIf
    x.beyondLimit .METER_IMPLAUSIBLE
  match s.channelWhere (fun c => c.claimsMeter i), x.delta with
  | some c, some d => s.bookMovement c x.q (decide (d = 0))
  | some _, none => s
  | none, _ => s.strayFlow i x.q

/-- R107: a report of a used entry. -/
def State.meterReport (i : Fin 16) (r : MeterReport) (s : State) : State :=
  let m := s.meters[i]
  if m.estimating then s.setMeter i (m.endEstimation r)
  else match m.cfg.kind with
    | .ENGINE => s.engineMeterReport i r
    | .TRANSFER => s.flowMeterReport i r
    | .RECEIPT => s.flowMeterReport i r

def execMeterReportTaken (index : Fin 16) (report : MeterReport) (s : State) : Out :=
  taken (.meterReportTaken index report) (fun s =>
    if s.meters[index].used then s.meterReport index report else s) s

/-! ## Node states (R114, R115) -/

/-- R115: the rack to hold: that of the linked engine's last report where it turns, else 0. -/
def State.rackToHold (s : State) (e : Option (Fin 8)) : Nat :=
  match e with
  | none => 0
  | some e =>
    match s.engines[e].lastReport with
    | some r => if 0 < r.rpm then r.rack else 0
    | none => 0

/-- R114: both baselines are dropped. -/
def Meter.dropBaselines (m : Meter) : Meter :=
  { m with ch1 := { m.ch1 with baseline := none }, ch2 := { m.ch2 with baseline := none } }

/-- R115: the estimation begins. -/
def Meter.beginEstimation (rack : Nat) (m : Meter) : Meter :=
  { m with estimating := true, heldRack := rack, rackHold := 60 }

/-- R114, R115: the node of a heard entry is lost. -/
def State.meterLost (i : Fin 16) (s : State) : State :=
  let m := s.meters[i].dropBaselines
  if m.cfg.kind = .ENGINE ∧ m.estimating = false then
    (s.setMeter i (m.beginEstimation (s.rackToHold m.cfg.engine))).post .ESTIMATING
  else s.setMeter i m

/-- R114: a change of node state of a used entry. -/
def State.meterNode (i : Fin 16) (st : NodeState) (s : State) : State :=
  let m := s.meters[i]
  let s := s.setMeter i { m with nodeAvailable := available st, heard := m.heard || decide (st = .ONLINE) }
  if !available st && m.heard then s.meterLost i else s

def execMeterNodeStateTaken (index : Fin 16) (state : NodeState) (s : State) : Out :=
  taken (.meterNodeStateTaken index state) (fun s =>
    if s.meters[index].used then s.meterNode index state else s) s

/-! ## Estimation (R116, R117) -/

/-- 2^48 − 1. -/
def max48 : Nat := 281474976710655

/-- R116, R117: an estimated second booked to an engine and to its feed tank. -/
def State.bookEstimated (e : Fin 8) (est : Nat) (s : State) : State :=
  { s with totals := s.totals.set e { s.totals[e] with estimated := satAdd max48 s.totals[e].estimated est } }.bookTank
    .consumed est s.engines[e].cfg.feedTank

/-- R116, R117: an estimated second of an entry at a rack, which leaves the rack and the hold given. -/
def State.estimateAt (i : Fin 16) (e : Fin 8) (rack hold : Nat) (s : State) : State :=
  let m := s.meters[i]
  let total := s.engines[e].cfg.ratedRate * rack + m.estResidue
  (s.setMeter i { m with estResidue := total % 3600, heldRack := rack, rackHold := hold }).bookEstimated e (total / 3600)

/-- R117: an unaccounted second. -/
def State.unaccounted (e : Fin 8) (s : State) : State :=
  { s with totals := s.totals.set e { s.totals[e] with unaccounted := satAdd max32 s.totals[e].unaccounted 1 } }

/-- R116, R117: an expiry at an estimating entry linked to an engine. -/
def State.estimateSecond (i : Fin 16) (e : Fin 8) (s : State) : State :=
  let m := s.meters[i]
  if s.engines[e].nodeAvailable then
    match s.engines[e].lastReport with
    | some r =>
      if 0 < r.rpm then s.estimateAt i e r.rack 60 else s.setMeter i { m with heldRack := 0, rackHold := 60 }
    | none => s.setMeter i { m with heldRack := 0, rackHold := 60 }
  else if 0 < m.rackHold then s.estimateAt i e m.heldRack (m.rackHold - 1)
  else s.unaccounted e

/-- R116: every estimating entry in turn. An entry without a linked engine, which no commit leaves, is passed (log 33). -/
def State.estimateAll (s : State) : State :=
  (List.finRange 16).foldl (fun s i =>
    match s.meters[i].used && s.meters[i].estimating, s.meters[i].cfg.engine with
    | true, some e => s.estimateSecond i e
    | _, _ => s) s

def execEstimationTimerExpiry (s : State) : Out :=
  live s fun s => onExpiry s.estimationTimer
    (fun t s => State.estimateAll { s with estimationTimer := some (t + ms 1000) }) s

end Sys2Proof.Machine
end

