-- ==== Sys2Proof/Machine/Movements.lean ====
section
/-! DEFINITION. Movement controller (08): requests, node states, pump reports and the settling deadline. -/

namespace Sys2Proof.Machine

open Sys2Proof

/-! ## READ_MOVEMENT_CHANNEL (R138) -/

/-- R136: what a channel was opened with, in a body. -/
def Channel.openedBody (c : Channel) : List Byte :=
  encOpt 1 (fun k => enumByte k.ctorIdx) c.kind ++ encOpt 1 (fun t => be 1 t.val) c.source
    ++ encOpt 1 (fun t => be 1 t.val) c.destination ++ encOpt 1 (fun m => be 1 m.val) c.meter ++ encNode c.pump
    ++ encOpt 1 (fun m => enumByte m.ctorIdx) c.mode ++ encOpt 3 (be 3) c.target

/-- R136: the fields of a channel in a body. -/
def Channel.body (now : Nat) (c : Channel) : List Byte :=
  enumByte c.state.ctorIdx ++ c.openedBody ++ be 4 c.moved ++ flag c.overflow
    ++ be 2 c.wraps ++ be 4 c.runOn ++ encOpt 1 (fun r => enumByte r.ctorIdx) c.stopReason
    ++ encOpt 4 (be 4) c.stopSecond ++ encDeadline now c.settling ++ be 1 c.zeroReports ++ encOpt 2 (be 2) c.number
    ++ encOpt 4 (be 4) c.startSecond ++ encOpt 1 (fun p => enumByte p.ctorIdx) c.lastPump

def decideReadMovementChannel (channel : Byte) : Act :=
  orElse (indexOf 2 channel) .BAD_INDEX fun i => readWith fun s => s.channels[i].body s.now ++ be 2 s.nextMovement

def execReadMovementChannel (p : Port) (tag channel : Byte) (s : State) : Out :=
  request p tag 0x43 (decideReadMovementChannel channel) s

/-! ## START_MOVEMENT (R139 to R141) -/

/-- The parameters of a START_MOVEMENT that are consistent (R140, check 2). -/
structure Start where
  kind        : MovementKind
  source      : Option (Fin 8)
  destination : Fin 8
  meter       : Fin 16
  pump        : NodeRef
  mode        : MovementMode
  target      : Option Nat
  deriving DecidableEq, Repr

/-- R140, check 2: the source: present for a TRANSFER and other than the destination, absent for a RECEIPT. -/
def sourceFor (k : MovementKind) (dst : Fin 8) (o : OptValue) : Option (Option (Fin 8)) :=
  match k, o with
  | .RECEIPT, .absent => some none
  | .TRANSFER, .present v => if h : v < 8 then (if (⟨v, h⟩ : Fin 8) = dst then none else some (some ⟨v, h⟩)) else none
  | _, _ => none

/-- R140, check 2: the target: 1 to 200,000 L in COUNT mode, absent in FREE_RUN. -/
def targetFor (m : MovementMode) (o : OptValue) : Option (Option Nat) :=
  match m, o with
  | .COUNT, .present v => if within 1 200000 v then some (some v) else none
  | .FREE_RUN, .absent => some none
  | _, _ => none

/-- R140, check 2: a pump node with an entry of kind PUMP on its line. -/
def State.pumpAt (s : State) (line address : Byte) : Option NodeRef :=
  match lineOf line with
  | none => none
  | some l =>
    match s.entryAt { line := l, address := address.toNat } with
    | some e => if e.bound = .pump then some { line := l, address := address.toNat } else none
    | none => none

/-- The kind of meter a movement needs (R103, R140). -/
def meterKindFor : MovementKind → MeterKind
  | .TRANSFER => .TRANSFER
  | .RECEIPT => .RECEIPT

/-- Whether a tank that may be named is used. -/
def State.tankUsed (s : State) (t : Option (Fin 8)) : Bool :=
  match t with
  | none => true
  | some t => s.tanks[t].used

/-- R140, check 2: the consistent parameters, or none. A presence byte that R188 refuses fails here (log 36). -/
def State.startOf (s : State) (dst : Fin 8) (m : Fin 16) (r : MovementParams) : Option Start :=
  match movementKindOf r.kind, movementModeOf r.mode, s.pumpAt r.pumpLine r.pumpAddress with
  | some k, some mode, some pump =>
    match sourceFor k dst (readOpt r.source), targetFor mode (readOpt r.target) with
    | some src, some target =>
      if s.tankUsed src && s.tanks[dst].used && s.meters[m].used && decide (s.meters[m].cfg.kind = meterKindFor k)
      then some { kind := k, source := src, destination := dst, meter := m, pump := pump, mode := mode, target := target }
      else none
    | _, _ => none
  | _, _, _ => none

/-- R140, check 3: whether the channel claims something a start names. -/
def Channel.claimsAny (x : Start) (c : Channel) : Bool :=
  c.claimsTank x.destination || (match x.source with | some t => c.claimsTank t | none => false)
    || c.claimsMeter x.meter || c.claimsPump x.pump

/-- How many channels are not IDLE. -/
def State.openChannels (s : State) : Nat := (List.finRange 2).countP fun i => s.channels[i].isOpen

/-- R140, check 5: the source of a TRANSFER is too low. -/
def State.sourceLow (s : State) (x : Start) : Bool :=
  match x.source with
  | some t => decide (s.tanks[t].state = some .RESERVE) || decide (s.tanks[t].state = some .EMPTY)
  | none => false

/-- R140, check 6: the destination cannot take the movement. -/
def State.noRoom (s : State) (x : Start) : Bool :=
  decide (s.tanks[x.destination].state = some .HIGH) ||
    match x.target with
    | some l => decide (s.tanks[x.destination].ullage < litres l)
    | none => false

/-- The state of a node as its line controller holds it. -/
def State.nodeStateAt (s : State) (r : Option NodeRef) : NodeState :=
  match r with
  | none => .UNHEARD
  | some r => ((s.entryAt r).map NodeEntry.state).getD .UNHEARD

/-- R140, check 7: the pump node ONLINE, the meter node ONLINE or SUSPECT. -/
def State.nodesReady (s : State) (x : Start) : Bool :=
  decide (s.nodeStateAt (some x.pump) = .ONLINE) && available (s.nodeStateAt s.meters[x.meter].node)

/-- R141: the number after a movement number. -/
def nextNumber (n : Nat) : Nat := if n = 65535 then 1 else n + 1

/-- R141: the named channel after a start. -/
def Channel.started (x : Start) (number second : Nat) : Channel where
  state := .RUNNING
  kind := some x.kind
  source := x.source
  destination := some x.destination
  meter := some x.meter
  pump := some x.pump
  mode := some x.mode
  target := x.target
  moved := 0
  overflow := false
  wraps := 0
  runOn := 0
  stopReason := none
  stopSecond := none
  settling := none
  zeroReports := 0
  number := some number
  startSecond := some second
  lastPump := none

/-- R141: the start is accepted; the body carries the channel and the movement number. -/
def acceptStart (c : Fin 2) (x : Start) : Act := fun s =>
  (({ s with nextMovement := nextNumber s.nextMovement }).setChannel c
      (Channel.started x s.nextMovement s.phase.seconds),
    .answered .DONE (be 1 c.val ++ be 2 s.nextMovement))

/-- The other channel. -/
def otherChannel (c : Fin 2) : Fin 2 := if c = 0 then 1 else 0

/-- R140: the seven checks, in their order. A broken presence byte (R188) is found in check 2, after the channel (log 36). -/
def startChecks (c : Fin 2) (dst : Fin 8) (m : Fin 16) (r : MovementParams) : Act := fun s =>
  if s.channels[c].isOpen then answer .CHANNEL_BUSY s
  else match s.startOf dst m r with
    | none => answer .BAD_VALUE s
    | some x =>
      if s.channels[otherChannel c].claimsAny x then answer .CLAIMED s
      else if 16 ≤ s.records.length + s.openChannels then answer .LIST_FULL s
      else if s.sourceLow x then answer .SOURCE_LOW s
      else if s.noRoom x then answer .NO_ROOM s
      else if !s.nodesReady x then answer .NODE_UNAVAILABLE s
      else acceptStart c x s

/-- R139: whether a source that is present has an index of a tank. -/
def sourceInRange (o : OptValue) : Bool :=
  match o with
  | .present v => decide (v < 8)
  | _ => true

/-- R139, R140. -/
def decideStartMovement (p : Port) (channel : Byte) (r : MovementParams) : Act :=
  fuelPortOnly p (inRunning (orElse (indexOf 2 channel) .BAD_INDEX fun c =>
    orElse (indexOf 8 r.destination) .BAD_INDEX fun dst =>
      orElse (indexOf 16 r.meter) .BAD_INDEX fun m =>
        require (sourceInRange (readOpt r.source)) .BAD_INDEX (startChecks c dst m r)))

def execStartMovement (p : Port) (tag channel : Byte) (req : MovementParams) (s : State) : Out :=
  request p tag 0x40 (decideStartMovement p channel req) s

/-! ## STOP_MOVEMENT (R148) -/

/-- R148. -/
def stopEntry (c : Fin 2) : Act := fun s =>
  match s.channels[c].state with
  | .RUNNING => doneWith (State.stopChannel c .STOPPED) s
  | .SETTLING => answer .DONE s
  | .IDLE => answer .NOTHING_PENDING s

def decideStopMovement (channel : Byte) : Act :=
  orElse (indexOf 2 channel) .BAD_INDEX fun c => inRunning (stopEntry c)

def execStopMovement (p : Port) (tag channel : Byte) (s : State) : Out := request p tag 0x41 (decideStopMovement channel) s

/-! ## The record list (R151, R152; 12.3) -/

/-- 12.3: the 32 bytes of a record. Every record has a number, a kind, a destination, a mode, a stop reason and a start
second (R141, R150); one without would carry 0 there (log 25). -/
def recordBody (count : Nat) (r : MovementRecord) : List Byte :=
  be 1 count ++ be 2 (r.number.getD 0) ++ enumByte ((r.kind.map MovementKind.ctorIdx).getD 0)
    ++ encOpt 1 (fun t => be 1 t.val) r.source ++ be 1 ((r.destination.map Fin.val).getD 0)
    ++ enumByte ((r.mode.map MovementMode.ctorIdx).getD 0) ++ encOpt 3 (be 3) r.target ++ be 4 r.moved ++ be 4 r.runOn
    ++ flag r.overflow ++ be 2 r.wraps ++ enumByte ((r.stopReason.map StopReason.ctorIdx).getD 0)
    ++ be 4 (r.startSecond.getD 0) ++ be 4 r.endSecond

/-- R151. -/
def decideReadMovementRecord (index : Byte) : Act := fun s =>
  match s.records[index.toNat]? with
  | none => answer .BAD_INDEX s
  | some r => (s, .answered .DONE (recordBody s.records.length r))

def execReadMovementRecord (p : Port) (tag index : Byte) (s : State) : Out :=
  request p tag 0x44 (decideReadMovementRecord index) s

/-- R152: the oldest record is removed; byte 0 gives the records left (12.3). -/
def retireOldest : Act := fun s =>
  match s.records with
  | [] => answer .NOTHING_PENDING s
  | r :: rest => ({ s with records := rest }, .answered .DONE (recordBody rest.length r))

def decideRetireMovement (p : Port) : Act := fuelPortOnly p retireOldest

def execRetireMovement (p : Port) (tag : Byte) (s : State) : Out := request p tag 0x42 (decideRetireMovement p) s

/-! ## Node states, pump reports and the settling deadline (R142, R147, R149) -/

/-- R147: the node of a channel is lost. -/
def State.channelLoses (node : MovementNode) (c : Fin 2) (s : State) : State :=
  match node, s.channels[c].state with
  | .meter _, .RUNNING => s.stopChannel c .METER_LOST
  | .meter _, .SETTLING => s.closeChannel c
  | .pump _ _, .RUNNING => s.stopChannel c .PUMP_FAULT
  | _, _ => s

/-- The open channel that claims a node. -/
def State.claimant (s : State) (node : MovementNode) : Option (Fin 2) :=
  match node with
  | .meter m => s.channelWhere fun c => c.claimsMeter m
  | .pump l a => s.channelWhere fun c => c.claimsPump { line := l, address := a }

/-- R147. -/
def State.movementNode (node : MovementNode) (st : NodeState) (s : State) : State :=
  match available st, s.claimant node with
  | false, some c => s.channelLoses node c
  | _, _ => s

def execMovementNodeStateTaken (node : MovementNode) (state : NodeState) (s : State) : Out :=
  taken (.movementNodeStateTaken node state) (State.movementNode node state) s

/-- R142: a status of FAULT stops a RUNNING channel. -/
def State.pumpReport (l : Line) (a : Nat) (st : PumpStatus) (s : State) : State :=
  match s.claimant (.pump l a) with
  | none => s
  | some c =>
    let s := s.setChannel c { s.channels[c] with lastPump := some st }
    if st = .FAULT then s.stopChannel c .PUMP_FAULT else s

def execPumpReportTaken (line : Line) (address : Nat) (status : PumpStatus) (s : State) : Out :=
  taken (.pumpReportTaken line address status) (State.pumpReport line address status) s

/-- R149: the settling deadline expires and the movement closes. -/
def execSettlingDeadlineExpiry (channel : Fin 2) (s : State) : Out :=
  live s fun s => onExpiry s.channels[channel].settling (fun _ => State.closeChannel channel) s

end Sys2Proof.Machine
end

