-- ==== Sys2Proof/Machine/Allocator.lean ====
section
/-! DEFINITION. Allocator (02): the pass and READ_ALLOCATION. -/

namespace Sys2Proof.Machine

open Sys2Proof

/-! ## The stages of a pass (R28 to R42) -/

/-- R32: a configured slot of axis AHEAD. -/
def Engine.isAhead (e : Engine) : Bool := e.configured && decide (e.cfg.axis = .AHEAD)

/-- R33, R34: an eligible slot of axis AHEAD. -/
def Engine.fills (e : Engine) : Bool := e.isAhead && e.eligible

/-- R41: an eligible slot of axis LATERAL. -/
def Engine.thrusts (e : Engine) : Bool := e.configured && decide (e.cfg.axis = .LATERAL) && e.eligible

/-- The sum of a number over the slots. -/
def sumSlots (f : Fin 8 → Nat) : Nat := (List.finRange 8).foldl (fun n i => n + f i) 0

/-- The sum of a signed number over the slots. -/
def sumSlotsInt (f : Fin 8 → Int) : Int := (List.finRange 8).foldl (fun n i => n + f i) 0

/-- R32: the weights of the slots for which a condition holds. -/
def weightOf (v : Vector Engine 8) (f : Engine → Bool) : Nat := sumSlots fun i => if f v[i] then v[i].cfg.weight else 0

/-- R31: a demand limited by a ceiling. -/
def limit (demand : Int) (ceiling : Nat) : Int := demand.sign * (min demand.natAbs ceiling : Nat)

/-- R33: the direction cap; not used where D is 0. -/
def Engine.directionCap (d : Int) (e : Engine) : Nat := if d < 0 then e.asternCap else e.aheadCap

/-- The water-fill between two rounds (R34): the shares fixed so far, D_rem, W_rem, the last p and the rounds run. -/
structure Fill where
  fixed  : Vector (Option Int) 8
  dRem   : Int
  wRem   : Nat
  p      : Int
  rounds : Nat
  deriving DecidableEq, Repr

/-- R34, item 2: whether a slot is fixed in a round with the common share p. -/
def Fill.fixes (v : Vector Engine 8) (d : Int) (f : Fill) (p : Int) (i : Fin 8) : Bool :=
  v[i].fills && decide (f.fixed[i] = none) && decide (v[i].directionCap d < p.natAbs)

/-- R34: one round. -/
def Fill.round (v : Vector Engine 8) (d : Int) (f : Fill) : Fill :=
  let p := f.dRem.tdiv f.wRem
  { fixed := Vector.ofFn fun i =>
      if f.fixes v d p i then some (d.sign * (v[i].directionCap d : Nat)) else f.fixed[i]
    dRem := f.dRem - d.sign * (sumSlots fun i => if f.fixes v d p i then v[i].cfg.weight * v[i].directionCap d else 0 : Nat)
    wRem := f.wRem - sumSlots fun i => if f.fixes v d p i then v[i].cfg.weight else 0
    p := p
    rounds := f.rounds + 1 }

/-- R34, item 3: the rounds, until one fixes no engine or W_rem becomes 0; at most 8 are run. -/
def Fill.run (v : Vector Engine 8) (d : Int) : Nat → Fill → Fill
  | 0, f => f
  | n + 1, f =>
    let f' := f.round v d
    if f'.fixed = f.fixed ∨ f'.wRem = 0 then f' else Fill.run v d n f'

/-- R34: the water-fill; with W_avail 0 no round is run. -/
def waterFill (v : Vector Engine 8) (d : Int) (wAvail : Nat) : Fill :=
  let f : Fill := { fixed := Vector.replicate 8 none, dRem := d, wRem := wAvail, p := 0, rounds := 0 }
  if wAvail = 0 then f else Fill.run v d 8 f

/-- R35: the share of a slot after the water-fill. -/
def Fill.share (v : Vector Engine 8) (f : Fill) (i : Fin 8) : Int :=
  if v[i].fills then f.fixed[i].getD f.p else 0

/-- R36. -/
def deficitOf (v : Vector Engine 8) (d tLim : Int) (wCfg : Nat) (f : Fill) : Nat :=
  if wCfg = 0 then tLim.natAbs
  else (d.natAbs - (sumSlotsInt fun i => if v[i].fills then v[i].cfg.weight * f.share v i else 0).natAbs) / wCfg

/-- R77: whether a station has a MAIN rudder in ONLINE. -/
def State.mainUsable (s : State) (st : Station) : Bool :=
  s.rudders.toList.any fun r =>
    r.configured && decide (r.cfg.kind = .MAIN) && decide (r.cfg.station = st) && decide (r.state = .ONLINE)

/-- R38. -/
def State.gainFor (s : State) (mode : Mode) (st : Station) : Nat :=
  match mode with
  | .STOP => 0
  | .MANOEUVRE => s.params.diffGain
  | .TRANSIT => if s.mainUsable st then 0 else s.params.fallbackGain

/-- R39, item 2: +1, −1, 0. -/
def Side.factor : Side → Int
  | .PORT => 1
  | .STARBOARD => -1
  | .CENTRE => 0

/-- R39, item 1: the turn part of a station. -/
def turnPart (uLim : Int) (gain : Nat) : Int := (uLim * gain).tdiv 1000

/-- R39, R41: clamp into −(astern cap) to +(ahead cap). -/
def Engine.clampShare (e : Engine) (x : Int) : Int := clampInt (-(e.asternCap : Int)) e.aheadCap x

/-- R40: a share smaller than the engage threshold is 0. -/
def threshold (t : Nat) (x : Int) : Int := if x.natAbs < t then 0 else x

/-- R41: the lateral share. -/
def lateralShare (mode : Mode) (uLim : Int) (bowGain : Nat) : Int :=
  match mode with
  | .MANOEUVRE => (uLim * bowGain).tdiv 1000
  | _ => 0

/-- R39 to R42: the final share of a slot. -/
def Engine.finalShare (p : Params) (uLim lateral : Int) (gains : PerStation Nat) (filled : Int) (e : Engine) : Int :=
  if e.fills then
    threshold p.engageThreshold (e.clampShare (filled + e.cfg.side.factor * turnPart uLim (gains.get e.cfg.station)))
  else if e.thrusts then threshold p.engageThreshold (e.clampShare lateral)
  else 0

/-- R25: the next pass number. -/
def nextPass (n : Nat) : Nat := (n + 1) % 4294967296

/-- R30: the record of a pass in STOP. -/
def stopRecord (s : State) : Allocation :=
  { Allocation.por with
    passNumber := nextPass s.alloc.passNumber
    ceilC := s.ceilings.c
    ceilK := s.ceilings.k
    mode := .STOP
    wCfg := weightOf s.engines Engine.isAhead
    wAvail := weightOf s.engines Engine.fills }

/-- R31 to R42: the record of a pass in TRANSIT or MANOEUVRE. -/
def driveRecord (s : State) : Allocation :=
  let tLim := limit s.order.thrust s.ceilings.c
  let uLim := limit s.order.turn s.ceilings.k
  let wCfg := weightOf s.engines Engine.isAhead
  let wAvail := weightOf s.engines Engine.fills
  let d := tLim * wCfg
  let fill := waterFill s.engines d wAvail
  let gains : PerStation Nat :=
    { lead := s.gainFor s.order.mode .LEAD, helper := s.gainFor s.order.mode .HELPER, bow := s.gainFor s.order.mode .BOW }
  let lateral := lateralShare s.order.mode uLim s.params.bowGain
  { passNumber := nextPass s.alloc.passNumber
    tLim := tLim
    uLim := uLim
    ceilC := s.ceilings.c
    ceilK := s.ceilings.k
    mode := s.order.mode
    wCfg := wCfg
    wAvail := wAvail
    deficit := deficitOf s.engines d tLim wCfg fill
    shares := Vector.ofFn fun i => s.engines[i].finalShare s.params uLim lateral gains (fill.share s.engines i)
    gains := gains
    lateral := lateral
    rounds := fill.rounds }

/-- R30, R31: the record of a pass. -/
def passRecord (s : State) : Allocation := if s.order.mode = .STOP then stopRecord s else driveRecord s

/-- R24, R37, R43: a pass writes its record, posts THRUST_DEFICIT where the deficit rises from 0, and hands its results
on. -/
def runPass (s : State) : State :=
  let r := passRecord s
  State.postIf (decide (s.alloc.deficit = 0) && decide (r.deficit ≠ 0)) .THRUST_DEFICIT
    { s with
      alloc := r
      engineResult := some r.shares
      rudderResult := some { uLim := r.uLim, gains := r.gains, mode := r.mode, passNumber := r.passNumber } }

/-- R24: the timer restarts on each expiry. -/
def execPassTimerExpiry (s : State) : Out :=
  live s fun s => onExpiry s.passTimer (fun t s => runPass { s with passTimer := some (t + ms 100) }) s

/-! ## READ_ALLOCATION (R27; 12.3) -/

/-- 12.3: the 44 bytes of the allocation record. -/
def allocationBody (s : State) : List Byte :=
  let a := s.alloc
  be 4 a.passNumber ++ beInt 2 a.tLim ++ beInt 2 a.uLim ++ be 2 a.ceilC ++ be 2 a.ceilK ++ enumByte a.mode.ctorIdx
    ++ be 2 a.wCfg ++ be 2 a.wAvail ++ be 2 a.deficit ++ a.shares.toList.flatMap (beInt 2)
    ++ be 2 a.gains.lead ++ be 2 a.gains.helper ++ be 2 a.gains.bow ++ beInt 2 a.lateral ++ be 1 a.rounds

def decideReadAllocation : Act := readWith allocationBody

def execReadAllocation (p : Port) (tag : Byte) (s : State) : Out := request p tag 0x10 decideReadAllocation s

end Sys2Proof.Machine
end

