-- ==== Sys2Proof/Machine/Rudders.lean ====
section
/-! DEFINITION. Rudder controller (04): requests, reports, the jam monitor, and the targets at each pass result. -/

namespace Sys2Proof.Machine

open Sys2Proof

/-! ## State (R70) -/

/-- R70: the first state in the table whose condition holds. -/
def Rudder.derive (r : Rudder) : RudderState :=
  if !r.configured then .ABSENT else if r.jam then .JAMMED else if !r.nodeAvailable then .LOST else .ONLINE

def State.setRudder (s : State) (i : Fin 8) (r : Rudder) : State := { s with rudders := s.rudders.set i r }

/-- R70: a condition of a slot changes by `f`; the state is derived again, and RUDDER_CHANGED posted where it differs. -/
def State.updateRudder (i : Fin 8) (f : Rudder → Rudder) (s : State) : State :=
  let r := s.rudders[i]
  let r' := { f r with state := (f r).derive }
  (s.setRudder i r').postIf (decide (r'.state ≠ r.state)) .RUDDER_CHANGED

/-! ## READ_RUDDER, WRITE_RUDDER (R68, R69) -/

/-- R67, R68: every field of the slot. -/
def Rudder.body (now : Nat) (r : Rudder) : List Byte :=
  flag r.configured ++ enumByte r.cfg.station.ctorIdx ++ enumByte r.cfg.kind.ctorIdx ++ be 2 r.cfg.maxAngle
    ++ be 1 r.cfg.slew ++ encNode r.node ++ flag r.nodeAvailable ++ flag r.jam ++ enumByte r.state.ctorIdx
    ++ beInt 2 r.target ++ beInt 2 r.commanded ++ encDeadline now r.jamDeadline ++ encOpt 2 (beInt 2) r.lastAngle

def decideReadRudder (slot : Byte) : Act :=
  orElse (indexOf 8 slot) .BAD_INDEX fun i => readWith fun s => s.rudders[i].body s.now

def execReadRudder (p : Port) (tag slot : Byte) (s : State) : Out := request p tag 0x20 (decideReadRudder slot) s

/-- R67, R69: the configuration, where every field lies in the range of its row. -/
def rudderCfgOf (c : RudderParams) : Option RudderCfg :=
  match stationOf c.station, rudderKindOf c.kind with
  | some st, some k =>
    if within 100 450 c.maxAngle.toNat && within 10 100 c.slew.toNat
    then some { station := st, kind := k, maxAngle := c.maxAngle.toNat, slew := c.slew.toNat }
    else none
  | _, _ => none

/-- R69: the slot after a write; ABSENT where no configuration is given (log 17). -/
def Rudder.written (cfg : Option RudderCfg) (r : Rudder) : Rudder :=
  match cfg with
  | some g => Rudder.fresh true g r.node
  | none => Rudder.por

/-- R69, R70: a slot written, with RUDDER_CHANGED where its state comes out different (log 34). -/
def State.writeRudder (i : Fin 8) (cfg : Option RudderCfg) (s : State) : State :=
  let r := s.rudders[i].written cfg
  (s.setRudder i r).postIf (decide (r.state ≠ s.rudders[i].state)) .RUDDER_CHANGED

def decideWriteRudder (slot marker : Byte) (c : RudderParams) : Act :=
  inConfiguring (orElse (indexOf 8 slot) .BAD_INDEX fun i =>
    orElse (marked marker (rudderCfgOf c)) .BAD_VALUE fun cfg => doneWith (State.writeRudder i cfg))

def execWriteRudder (p : Port) (tag slot marker : Byte) (c : RudderParams) (s : State) : Out :=
  request p tag 0x21 (decideWriteRudder slot marker c) s

/-! ## CLEAR_RUDDER_FAULT (R78) -/

/-- R73, R78: whether two angles lie within 50 tenths of each other. -/
def near (a b : Int) : Bool := decide ((a - b).natAbs ≤ 50)

/-- R78: whether the jam may be cleared. -/
def Rudder.follows (r : Rudder) : Bool :=
  r.nodeAvailable &&
    match r.lastAngle with
    | some a => near a r.commanded
    | none => false

def decideClearRudderFault (p : Port) (slot : Byte) : Act :=
  holderOnly p (orElse (indexOf 8 slot) .BAD_INDEX fun i s =>
    let r := s.rudders[i]
    if !r.configured then answer .BAD_VALUE s
    else if !r.jam then answer .DONE s
    else if r.follows then doneWith (State.updateRudder i fun r => { r with jam := false, jamDeadline := none }) s
    else answer .NOT_READY s)

def execClearRudderFault (p : Port) (tag slot : Byte) (s : State) : Out :=
  request p tag 0x22 (decideClearRudderFault p slot) s

/-! ## READ_STEERING (R77) -/

/-- R77: usable, backing and gain of a station. -/
def stationBody (s : State) (st : Station) : List Byte :=
  flag (s.mainUsable st) ++ flag (s.steering.backing.get st) ++ be 2 (s.steering.gains.get st)

/-- R77: the station view. -/
def steeringBody (s : State) : List Byte :=
  stationBody s .LEAD ++ stationBody s .HELPER ++ stationBody s .BOW ++ beInt 2 s.steering.uLim
    ++ enumByte s.steering.mode.ctorIdx ++ be 4 s.steering.passNumber

def decideReadSteering : Act := readWith steeringBody

def execReadSteering (p : Port) (tag : Byte) (s : State) : Out := request p tag 0x23 decideReadSteering s

/-! ## Pass results (R74 to R77) -/

/-- R74: whether a station is backing. -/
def State.backing (s : State) (st : Station) : Bool :=
  s.engines.toList.any fun e => e.isAhead && decide (e.cfg.station = st) && decide (e.gear = .ASTERN)

/-- R75: the target angle of a rudder. -/
def RudderCfg.targetAngle (g : RudderCfg) (mode : Mode) (backing : Bool) (uLim : Int) : Int :=
  if mode = .STOP then 0
  else match g.kind, backing with
    | .MAIN, false => (uLim * g.maxAngle).tdiv 1000
    | .FLANKING, true => (-uLim * g.maxAngle).tdiv 1000
    | .MAIN, true => 0
    | .FLANKING, false => 0

/-- R76: the slew step. -/
def slewStep (slew : Nat) : Int := (max 1 (slew / 10) : Nat)

/-- R76: the angle one step nearer to the target. -/
def slewTo (step target angle : Int) : Int := angle + clampInt (-step) step (target - angle)

/-- R75, R76: a configured rudder at a pass result. -/
def Rudder.applyResult (mode : Mode) (backing : Bool) (uLim : Int) (r : Rudder) : Rudder :=
  let target := r.cfg.targetAngle mode backing uLim
  { r with
    target := target
    commanded := if r.state = .ONLINE then slewTo (slewStep r.cfg.slew) target r.commanded else r.commanded }

/-- R74 to R77: the rudder controller acts on a pass result as a whole. -/
def State.applyRudders (r : RudderResult) (s : State) : State :=
  { s with
    steering := {
      backing := { lead := s.backing .LEAD, helper := s.backing .HELPER, bow := s.backing .BOW }
      gains := r.gains
      uLim := r.uLim
      mode := r.mode
      passNumber := r.passNumber }
    rudders := Vector.ofFn fun i : Fin 8 =>
      if s.rudders[i].configured then
        s.rudders[i].applyResult r.mode (s.backing s.rudders[i].cfg.station) r.uLim
      else s.rudders[i] }

/-- R43, R75: the controller takes the result of a pass, where one waits (log 9). -/
def execPassResultTakenRudders (s : State) : Out :=
  live s fun s =>
    match s.rudderResult with
    | none => s
    | some r => State.applyRudders r { s with rudderResult := none }

/-! ## Reports, node states and the jam monitor (R71 to R73) -/

/-- R72, R73: a report, stored, and while ONLINE compared with the commanded angle. -/
def Rudder.report (angle : Int) (jamUntil : Nat) (r : Rudder) : Rudder :=
  { r with
    lastAngle := some angle
    jamDeadline :=
      if r.state = .ONLINE then (if near angle r.commanded then none else r.jamDeadline.or (some jamUntil))
      else r.jamDeadline }

def execRudderReportTaken (slot : Fin 8) (angle : Int) (s : State) : Out :=
  taken (.rudderReportTaken slot angle) (fun s =>
    if s.rudders[slot].configured then s.setRudder slot (s.rudders[slot].report angle (s.after 3000)) else s) s

/-- R71: the jam deadline goes with the node. -/
def Rudder.nodeChange (up : Bool) (r : Rudder) : Rudder :=
  { r with nodeAvailable := up, jamDeadline := if up then r.jamDeadline else none }

def execRudderNodeStateTaken (slot : Fin 8) (state : NodeState) (s : State) : Out :=
  taken (.rudderNodeStateTaken slot state) (fun s =>
    if s.rudders[slot].configured then s.updateRudder slot (Rudder.nodeChange (available state)) else s) s

/-- R73: the jam latch is set. -/
def execJamDeadlineExpiry (slot : Fin 8) (s : State) : Out :=
  live s fun s => onExpiry s.rudders[slot].jamDeadline
    (fun _ s => s.updateRudder slot fun r => { r with jam := true, jamDeadline := none }) s

end Sys2Proof.Machine
end

