-- ==== Sys2Proof/Machine/Tanks.lean ====
section
/-! DEFINITION. Fuel account (07): requests, soundings and the discrepancy deadline. -/

namespace Sys2Proof.Machine

open Sys2Proof

/-! ## READ_TANK (R121) -/

/-- R120: the configuration fields of a body. -/
def TankCfg.body (g : TankCfg) : List Byte :=
  enumByte g.station.ctorIdx ++ be 3 g.capacity ++ be 3 g.high ++ be 3 g.low ++ be 3 g.reserve ++ be 3 g.empty
    ++ be 2 g.hysteresis ++ flag g.fitted ++ enumByte g.source.ctorIdx ++ be 2 g.limit

/-- R121: the account in a body. -/
def Account.body (a : Account) : List Byte :=
  beInt 4 a.book ++ beInt 4 a.opening ++ beInt 6 a.received ++ beInt 6 a.transferIn ++ beInt 6 a.transferOut
    ++ beInt 6 a.consumed ++ flag a.saturated

/-- R120, R121: every field of the entry, then level used, ullage (log 25) and the claiming channel. -/
def tankBody (s : State) (i : Fin 8) : List Byte :=
  let t := s.tanks[i]
  flag t.used ++ t.cfg.body ++ encNode t.node ++ t.account.body ++ encOpt 3 (be 3) t.sounding ++ flag t.soundingValid
    ++ encOpt 1 (fun st => enumByte st.ctorIdx) t.state ++ flag t.discrepancy ++ encDeadline s.now t.discDeadline
    ++ beInt 6 t.levelUsed ++ beInt 4 t.ullage
    ++ encOpt 1 (fun c => be 1 c.val) (s.channelWhere fun c => c.claimsTank i)

def decideReadTank (index : Byte) : Act :=
  orElse (indexOf 8 index) .BAD_INDEX fun i => readWith fun s => tankBody s i

def execReadTank (p : Port) (tag index : Byte) (s : State) : Out := request p tag 0x38 (decideReadTank index) s

/-! ## WRITE_TANK (R122) -/

/-- R122: the hysteresis; where it is absent, capacity div 100. -/
def hysteresisOf (capacity : Nat) (o : OptParam 16) : Option Nat :=
  match readOpt o with
  | .absent => some (capacity / 100)
  | .present v => if v ≤ 20000 then some v else none
  | .bad => none

/-- R120, R122: the configuration, where every field lies in the range of its row and a source of SOUNDING has a sounding
fitted. -/
def tankCfgOf (c : TankParams) : Option TankCfg :=
  match stationOf c.station, flagOf c.fitted, sourceOf c.source, hysteresisOf c.capacity.toNat c.hysteresis with
  | some st, some fitted, some source, some h =>
    if within 100 200000 c.capacity.toNat && within 0 200000 c.high.toNat && within 0 200000 c.low.toNat
      && within 0 200000 c.reserve.toNat && within 0 200000 c.empty.toNat && within 1 20000 c.limit.toNat
      && (fitted || decide (source = .BOOK))
    then some {
      station := st, capacity := c.capacity.toNat, high := c.high.toNat, low := c.low.toNat
      reserve := c.reserve.toNat, empty := c.empty.toNat, hysteresis := h, fitted := fitted, source := source
      limit := c.limit.toNat }
    else none
  | _, _, _, _ => none

/-- R122: the entry after a write. One that keeps the entry used keeps its account, its flags and its state; one to UNUSED
leaves POR values (log 17). -/
def Tank.written (cfg : Option TankCfg) (t : Tank) : Tank :=
  match cfg with
  | some g => { t with used := true, cfg := g, sounding := none, soundingValid := false, discDeadline := none }
  | none => Tank.por

def decideWriteTank (index marker : Byte) (c : TankParams) : Act :=
  inConfiguring (orElse (indexOf 8 index) .BAD_INDEX fun i =>
    orElse (marked marker (tankCfgOf c)) .BAD_VALUE fun cfg =>
      doneWith fun s => s.setTank i (s.tanks[i].written cfg))

def execWriteTank (p : Port) (tag index marker : Byte) (c : TankParams) (s : State) : Out :=
  request p tag 0x39 (decideWriteTank index marker c) s

/-! ## REBASE_TANK (R131) -/

/-- R131: the new content set. -/
def Tank.rebase (v : Int) (t : Tank) : Tank :=
  { t with account := { Account.por with book := v, opening := v }, discrepancy := false, discDeadline := none }

/-- R131: a content that passes is set, the state derived afresh (in RUNNING) and the new book tested. -/
def State.rebaseTank (i : Fin 8) (v : Int) (s : State) : State :=
  ((s.setTank i (s.tanks[i].rebase v)).deriveTank i).discTest i

/-- R131: whether a volume lies from 0 to capacity × 1000. -/
def TankCfg.holds (g : TankCfg) (v : Nat) : Bool := decide (v ≤ g.capacity * 1000)

/-- R131, items 3 to 6. A broken presence byte of the value (R188) is refused in item 3, before TANK_BUSY (log 36). -/
def rebaseWith (value : OptValue) (i : Fin 8) : Act := fun s =>
  let t := s.tanks[i]
  let claimed := (s.channelWhere fun c => c.claimsTank i).isSome
  if !t.used then answer .BAD_VALUE s
  else match value with
    | .bad => answer .BAD_VALUE s
    | .present v =>
      if !t.cfg.holds v then answer .BAD_VALUE s
      else if claimed then answer .TANK_BUSY s
      else doneWith (State.rebaseTank i v) s
    | .absent =>
      if claimed then answer .TANK_BUSY s
      else match t.soundingValid, t.sounding with
        | true, some l =>
          if t.cfg.holds (l * 1000) then doneWith (State.rebaseTank i (litres l)) s else answer .BAD_VALUE s
        | _, _ => answer .NOT_READY s

def decideRebaseTank (p : Port) (index : Byte) (value : OptParam 32) : Act :=
  fuelPortOnly p (orElse (indexOf 8 index) .BAD_INDEX (rebaseWith (readOpt value)))

def execRebaseTank (p : Port) (tag index : Byte) (value : OptParam 32) (s : State) : Out :=
  request p tag 0x3A (decideRebaseTank p index value) s

/-! ## SET_FEED (R132) -/

/-- R132: the slot draws from another tank, at that tank's feed level. -/
def State.moveFeed (e t : Fin 8) (s : State) : State :=
  let level := feedLevelOf s.tanks[t].state
  s.updateEngine e fun x => { x with cfg := { x.cfg with feedTank := t }, feed := level }

/-- R132, items 4 and 5. -/
def feedEntry (e t : Fin 8) : Act := fun s =>
  if !s.engines[e].configured ∨ !s.tanks[t].used ∨ s.tanks[t].cfg.station ≠ s.engines[e].cfg.station then
    answer .BAD_VALUE s
  else if s.tanks[t].state = some .EMPTY then answer .SOURCE_LOW s
  else if s.engines[e].cfg.feedTank = t then answer .DONE s
  else doneWith (State.moveFeed e t) s

def decideSetFeed (p : Port) (engine tank : Byte) : Act :=
  fuelPortOnly p (inRunning (orElse (indexOf 8 engine) .BAD_INDEX fun e =>
    orElse (indexOf 8 tank) .BAD_INDEX fun t => feedEntry e t))

def execSetFeed (p : Port) (tag engine tank : Byte) (s : State) : Out := request p tag 0x3B (decideSetFeed p engine tank) s

/-! ## SET_TANK (R133) -/

/-- R133: the live fields set, the state derived afresh where the source changes, and the difference tested where the limit
does. -/
def State.writeTankLive (i : Fin 8) (source : StateSource) (limit : Nat) (s : State) : State :=
  let t := s.tanks[i]
  let s := s.setTank i { t with cfg := { t.cfg with source := source, limit := limit } }
  let s := if t.cfg.source = source then s else s.deriveTank i
  if t.cfg.limit = limit then s else s.discTest i

/-- R133, item 4, and the clamp of the limit. -/
def tankLive (source : Byte) (limit : Nat) (i : Fin 8) : Act := fun s =>
  let t := s.tanks[i]
  if !t.used then answer .BAD_VALUE s
  else match sourceOf source with
    | none => answer .BAD_VALUE s
    | some src =>
      if src = .SOUNDING ∧ t.cfg.fitted = false then answer .BAD_VALUE s
      else
        (s.writeTankLive i src (clampNat 1 20000 limit),
          .answered (if clampNat 1 20000 limit = limit then .DONE else .CLAMPED) [])

def decideSetTank (p : Port) (index source : Byte) (limit : Half) : Act :=
  fuelPortOnly p (inRunning (orElse (indexOf 8 index) .BAD_INDEX (tankLive source limit.toNat)))

def execSetTank (p : Port) (tag index source : Byte) (limit : Half) (s : State) : Out :=
  request p tag 0x3C (decideSetTank p index source limit) s

/-! ## Soundings (R129) and the discrepancy deadline (R130) -/

/-- R127: the state of a tank whose source is SOUNDING is derived afresh. -/
def State.deriveSounded (i : Fin 8) (s : State) : State :=
  if s.tanks[i].cfg.source = .SOUNDING then s.deriveTank i else s

/-- R129, R130: a sounding report stored. -/
def Tank.sounded (r : TankReport) (t : Tank) : Tank :=
  if r.valid then { t with sounding := some r.level, soundingValid := true }
  else { t with sounding := some r.level }.soundingLost

/-- R129: a sounding report of a used entry. -/
def State.tankReport (i : Fin 8) (r : TankReport) (s : State) : State :=
  ((s.setTank i (s.tanks[i].sounded r)).deriveSounded i).discTest i

def execTankReportTaken (index : Fin 8) (report : TankReport) (s : State) : Out :=
  taken (.tankReportTaken index report) (fun s =>
    if s.tanks[index].used then s.tankReport index report else s) s

/-- R129: the node is lost, and the tank falls back to its book; its return waits for a report marked valid. -/
def State.tankNode (i : Fin 8) (st : NodeState) (s : State) : State :=
  if available st then s else (s.setTank i s.tanks[i].soundingLost).deriveSounded i

def execTankNodeStateTaken (index : Fin 8) (state : NodeState) (s : State) : Out :=
  taken (.tankNodeStateTaken index state) (fun s =>
    if s.tanks[index].used then s.tankNode index state else s) s

/-- R130: the flag is set and DISCREPANCY posted. -/
def execDiscrepancyDeadlineExpiry (index : Fin 8) (s : State) : Out :=
  live s fun s => onExpiry s.tanks[index].discDeadline
    (fun _ s => (s.setTank index { s.tanks[index] with discrepancy := true, discDeadline := none }).post .DISCREPANCY) s

end Sys2Proof.Machine
end

