-- ==== Sys2Proof/Machine/Phase.lean ====
section
/-! DEFINITION. Phase controller (11): parameters, the commit checks, commit, reconfigure, the seconds timer and full
reset. -/

namespace Sys2Proof.Machine

open Sys2Proof

/-! ## READ_PHASE (R180; 12.3) -/

/-- 12.3: the 5 bytes of a failed commit. -/
def invalidBody (check : Nat) (item : Option CommitItem) : List Byte :=
  be 1 check ++ encOpt 3 (fun x : CommitItem => enumByte x.table.ctorIdx ++ be 1 x.index ++ be 1 x.position) item

/-- 12.3: presence, result and the 5 bytes of the last commit outcome, which are 0 where there is none to give (log 25). -/
def outcomeBody : Option CommitOutcome → List Byte
  | none => List.replicate 7 0
  | some .done => 1 :: Result.code .DONE :: List.replicate 5 0
  | some (.invalid c x) => 1 :: Result.code .CONFIG_INVALID :: invalidBody c x

def phaseBody (s : State) : List Byte :=
  enumByte s.phase.phase.ctorIdx ++ be 4 s.phase.seconds ++ outcomeBody s.phase.lastCommit

def decideReadPhase : Act := readWith phaseBody

def execReadPhase (p : Port) (tag : Byte) (s : State) : Out := request p tag 0x58 decideReadPhase s

/-! ## Parameters (R29, R62, R84, R183) -/

/-- R183: the parameters, in the order of the table. -/
inductive Parameter where
  | diffGain | fallbackGain | bowGain | engageThreshold | releaseThreshold | strainFactor | gearDwell | trackingBand
  deriving DecidableEq, Repr

/-- R189: a parameter is named by its position in the table. -/
def parameterOf (b : Byte) : Option Parameter :=
  match b.toNat with
  | 0 => some .diffGain
  | 1 => some .fallbackGain
  | 2 => some .bowGain
  | 3 => some .engageThreshold
  | 4 => some .releaseThreshold
  | 5 => some .strainFactor
  | 6 => some .gearDwell
  | 7 => some .trackingBand
  | _ => none

/-- R183: the lowest value. -/
def Parameter.low : Parameter → Nat
  | .strainFactor => 100
  | .gearDwell => 1000
  | .trackingBand => 20
  | _ => 0

/-- R183: the highest value. -/
def Parameter.high : Parameter → Nat
  | .diffGain => 500
  | .fallbackGain => 500
  | .bowGain => 1000
  | .engageThreshold => 200
  | .releaseThreshold => 300
  | .strainFactor => 1000
  | .gearDwell => 10000
  | .trackingBand => 1000

/-- R183: whether the parameter is live in RUNNING. -/
def Parameter.live : Parameter → Bool
  | .diffGain => true
  | .fallbackGain => true
  | .bowGain => true
  | .engageThreshold => true
  | _ => false

/-- A parameter set. -/
def Params.put (x : Parameter) (v : Nat) (p : Params) : Params :=
  match x with
  | .diffGain => { p with diffGain := v }
  | .fallbackGain => { p with fallbackGain := v }
  | .bowGain => { p with bowGain := v }
  | .engageThreshold => { p with engageThreshold := v }
  | .releaseThreshold => { p with releaseThreshold := v }
  | .strainFactor => { p with strainFactor := v }
  | .gearDwell => { p with gearDwell := v }
  | .trackingBand => { p with trackingBand := v }

/-- The parameter set in the state. -/
def putParam (x : Parameter) (v : Nat) (s : State) : State := { s with params := s.params.put x v }

/-- R183, item 2. -/
def writeParamOpen (x : Parameter) (v : Nat) : Act := fun s =>
  if within x.low x.high v then doneWith (putParam x v) s else answer .BAD_VALUE s

/-- R183, items 3 and 4. -/
def writeParamLive (p : Port) (x : Parameter) (v : Nat) : Act := fun s =>
  if !x.live then answer .BAD_PHASE s
  else match bridgeOf p with
    | none => answer .NOT_PERMITTED s
    | some b =>
      if s.helm.holder = some b then
        (putParam x (clampNat x.low x.high v) s,
          .answered (if clampNat x.low x.high v = v then .DONE else .CLAMPED) [])
      else answer .NOT_HOLDER s

def decideWriteParameters (p : Port) (parameter : Byte) (value : Half) : Act :=
  orElse (parameterOf parameter) .BAD_VALUE fun x s =>
    if s.running then writeParamLive p x value.toNat s else writeParamOpen x value.toNat s

def execWriteParameters (p : Port) (tag parameter : Byte) (value : Half) (s : State) : Out :=
  request p tag 0x11 (decideWriteParameters p parameter value) s

/-- R183: the eight values, each in the width of its range. -/
def paramsBody (s : State) : List Byte :=
  let q := s.params
  be 2 q.diffGain ++ be 2 q.fallbackGain ++ be 2 q.bowGain ++ be 1 q.engageThreshold ++ be 2 q.releaseThreshold
    ++ be 2 q.strainFactor ++ be 2 q.gearDwell ++ be 2 q.trackingBand

def decideReadParameters : Act := readWith paramsBody

def execReadParameters (p : Port) (tag : Byte) (s : State) : Out := request p tag 0x12 decideReadParameters s

/-! ## The nine checks of a commit (R184) -/

/-- What a failing check reports. -/
abbrev Failing := Option (Nat × Option CommitItem)

/-- The first index, in order, that fails a check. -/
def firstFail {n : Nat} (check : Nat) (table : CommitTable) (fails : Fin n → Bool) : Failing :=
  ((List.finRange n).find? fails).map fun i => (check, some { table := table, index := i.val, position := 0 })

/-- The first node entry of a line, in position order, that fails a check. -/
def firstNode (check : Nat) (l : Line) (c : LineCtl) (fails : Fin 32 → NodeEntry → Bool) : Failing :=
  (c.entries.find? fun x => fails x.1 x.2).map fun x =>
    (check, some { table := .NODE, index := l.ctorIdx, position := x.1.val })

/-- Check 1. -/
def check1 (s : State) : Failing := if s.engines.toList.any Engine.isAhead then none else some (1, none)

/-- Check 2. -/
def check2 (s : State) : Failing :=
  firstFail 2 .ENGINE fun i : Fin 8 =>
    let e := s.engines[i]
    e.configured && (!s.tanks[e.cfg.feedTank].used || decide (s.tanks[e.cfg.feedTank].cfg.station ≠ e.cfg.station))

/-- Check 3. -/
def check3 (s : State) : Failing :=
  firstFail 3 .ENGINE fun i : Fin 8 =>
    s.engines[i].configured && decide (s.engines[i].cfg.maxRpm < s.engines[i].cfg.idleRpm + 100)

/-- R83: the order of the levels. -/
def CouplingCfg.ordered (g : CouplingCfg) : Bool :=
  decide (g.slackLevel + g.band < g.target) && decide (g.target + g.band < g.strainLevel)
    && decide (g.strainLevel < g.renderLevel) && decide (g.target ≤ g.recoveryLevel)
    && decide (g.recoveryLevel < g.strainLevel)

/-- Check 4. -/
def check4 (s : State) : Failing :=
  firstFail 4 .COUPLING fun i : Fin 24 => s.couplings[i].used && !s.couplings[i].cfg.ordered

/-- R120: the order of the levels. -/
def TankCfg.ordered (g : TankCfg) : Bool :=
  decide (g.empty < g.reserve) && decide (g.reserve < g.low) && decide (g.low < g.high) && decide (g.high ≤ g.capacity)

/-- Check 5. -/
def check5 (s : State) : Failing :=
  firstFail 5 .TANK fun i : Fin 8 => s.tanks[i].used && !s.tanks[i].cfg.ordered

/-- Check 6: whether a bound object is configured. -/
def State.boundConfigured (s : State) : Bound → Bool
  | .engine i => s.engines[i].configured
  | .rudder i => s.rudders[i].configured
  | .winch i => s.couplings[i].used
  | .meter i => s.meters[i].used
  | .tank i => s.tanks[i].used && s.tanks[i].cfg.fitted
  | .pump => true

/-- The number of node entries bound to an object, over both lines. -/
def State.bindings (s : State) (b : Bound) : Nat :=
  (s.lines.a.entries ++ s.lines.b.entries).countP fun x => decide (x.2.bound = b)

/-- Check 6: a configured object that is not bound exactly once. -/
def State.misbound (s : State) (b : Bound) : Bool := s.boundConfigured b && decide (s.bindings b ≠ 1)

/-- Check 6: the node entries, then the objects. -/
def check6 (s : State) : Failing :=
  (firstNode 6 .A s.lines.a fun _ e => !s.boundConfigured e.bound)
    <|> (firstNode 6 .B s.lines.b fun _ e => !s.boundConfigured e.bound)
    <|> (firstFail 6 .ENGINE fun i => s.misbound (.engine i))
    <|> (firstFail 6 .RUDDER fun i => s.misbound (.rudder i))
    <|> (firstFail 6 .COUPLING fun i => s.misbound (.winch i))
    <|> (firstFail 6 .METER fun i => s.misbound (.meter i))
    <|> (firstFail 6 .TANK fun i => s.misbound (.tank i))

/-- Check 7: an entry of a lower position holds the same address. -/
def LineCtl.repeats (c : LineCtl) (i : Fin 32) (e : NodeEntry) : Bool :=
  c.entries.any fun x => decide (x.1 < i) && decide (x.2.address = e.address)

/-- Check 7. -/
def check7 (s : State) : Failing :=
  (firstNode 7 .A s.lines.a s.lines.a.repeats) <|> (firstNode 7 .B s.lines.b s.lines.b.repeats)

/-- Check 8: a used meter whose linked engine is wrong. -/
def State.meterMislinked (s : State) (i : Fin 16) : Bool :=
  let m := s.meters[i]
  m.used &&
    match m.cfg.kind, m.cfg.engine with
    | .ENGINE, none => true
    | .ENGINE, some e => !s.engines[e].configured || decide (s.engines[e].cfg.meter ≠ some i)
    | _, some _ => true
    | _, none => false

/-- Check 8: a configured engine whose meter is wrong. -/
def State.engineMislinked (s : State) (i : Fin 8) : Bool :=
  let e := s.engines[i]
  e.configured &&
    match e.cfg.meter with
    | none => false
    | some m =>
      !s.meters[m].used || decide (s.meters[m].cfg.kind ≠ .ENGINE) || decide (s.meters[m].cfg.engine ≠ some i)

/-- Check 8. -/
def check8 (s : State) : Failing := firstFail 8 .METER s.meterMislinked <|> firstFail 8 .ENGINE s.engineMislinked

/-- Check 9. -/
def check9 (s : State) : Failing :=
  firstFail 9 .ENGINE fun i : Fin 8 => s.engines[i].configured && !within 1 100 s.engines[i].cfg.weight

/-- R184: the first check that fails, and its item. -/
def State.commitFailure (s : State) : Failing :=
  check1 s <|> check2 s <|> check3 s <|> check4 s <|> check5 s <|> check6 s <|> check7 s <|> check8 s <|> check9 s

/-! ## Commit (R22, R66, R79, R101, R119, R134, R168, R185) -/

/-- R134: a tank at commit; its state is derived from NORMAL with the book as the level used. -/
def Tank.commit (node : Option NodeRef) (t : Tank) : Tank :=
  if t.used then
    { t with
      node := node
      soundingValid := false
      discDeadline := none
      state := some (deriveTankState t.cfg t.account.book .NORMAL) }
  else t

/-- R66: an engine at commit, with the state of its feed tank. -/
def Engine.commit (node : Option NodeRef) (feed : FeedLevel) (e : Engine) : Engine :=
  if e.configured then Engine.fresh true e.cfg node feed else e

/-- R79: a rudder at commit. -/
def Rudder.commit (node : Option NodeRef) (r : Rudder) : Rudder := if r.configured then Rudder.fresh true r.cfg node else r

/-- R101: a coupling at commit; the overload count and the peak are kept. -/
def Coupling.commit (node : Option NodeRef) (c : Coupling) : Coupling :=
  if c.used then { Coupling.fresh true c.cfg node with overloads := c.overloads, peak := c.peak } else c

/-- R119: a meter at commit. -/
def Meter.commit (node : Option NodeRef) (m : Meter) : Meter :=
  if m.used then
    { m with node := node, nodeAvailable := false, heard := false, estimating := false, heldRack := 0, rackHold := 0 }
  else m

/-- The sounding node of a tank: filled where a sounding is fitted (R120). -/
def State.tankNodeRef (s : State) (i : Fin 8) : Option NodeRef :=
  if s.tanks[i].cfg.fitted then s.nodeOf (.tank i) else none

/-- The tanks at commit. -/
def State.committedTanks (s : State) : Vector Tank 8 := Vector.ofFn fun i => s.tanks[i].commit (s.tankNodeRef i)

/-- R185: every block takes its commit values, as one event. -/
def State.commitBlocks (lines : PerStation Bool) (s : State) : State :=
  { s with
    levels := { s.levels with trip := lines }
    helm := Helm.por
    order := Order.por
    alloc := Allocation.por
    passTimer := some (s.after 100)
    engineResult := none
    rudderResult := none
    tanks := s.committedTanks
    engines := Vector.ofFn fun i : Fin 8 =>
      s.engines[i].commit (s.nodeOf (.engine i)) (feedLevelOf s.committedTanks[s.engines[i].cfg.feedTank].state)
    tripLatch := lines
    rudders := Vector.ofFn fun i : Fin 8 => s.rudders[i].commit (s.nodeOf (.rudder i))
    steering := Steering.por
    couplings := Vector.ofFn fun i : Fin 24 => s.couplings[i].commit (s.nodeOf (.winch i))
    ceilings := { c := 1000, k := 1000 }
    meters := Vector.ofFn fun i : Fin 16 => s.meters[i].commit (s.nodeOf (.meter i))
    estimationTimer := some (s.after 1000)
    lines := { a := s.lines.a.commit s.now, b := s.lines.b.commit s.now }
    phase := { phase := .RUNNING, seconds := 0, lastCommit := some .done, secondsTimer := some (s.after 1000) } }

/-- R185: the events of a commit. -/
def State.commit (lines : PerStation Bool) (s : State) : State :=
  ((s.commitBlocks lines).post .PHASE_CHANGED).postIf (lines.lead || lines.helper || lines.bow) .STATION_TRIPPED

/-- R184: a commit that fails records its outcome and changes nothing else. -/
def commitFails (check : Nat) (item : Option CommitItem) : Act := fun s =>
  ({ s with phase := { s.phase with lastCommit := some (.invalid check item) } },
    .answered .CONFIG_INVALID (invalidBody check item))

/-- R184, R185. -/
def decideCommitConfig (lines : PerStation Bool) : Act :=
  inConfiguring fun s =>
    match s.commitFailure with
    | some (check, item) => commitFails check item s
    | none => doneWith (State.commit lines) s

def execCommitConfig (p : Port) (tag : Byte) (lines : PerStation Bool) (s : State) : Out :=
  request p tag 0x59 (decideCommitConfig lines) s

/-! ## Reconfigure (R23, R66, R79, R102, R119, R135, R153, R168, R186) -/

/-- R186, item 4. -/
def State.atRest (s : State) : Bool :=
  s.engines.toList.all (fun e => !e.configured || (decide (e.gear = .NEUTRAL) && e.dwell.isNone))
    && s.channels.toList.all fun c => !c.isOpen

/-- R23: the helm unit at reconfigure. -/
def Helm.reconfigure (h : Helm) : Helm :=
  { Helm.por with takeOvers := h.takeOvers, policyL := h.policyL, policyH := h.policyH }

/-- R66: an engine at reconfigure: its node is gone, and none of the actions of R53 is taken. -/
def Engine.reconfigure (e : Engine) : Engine :=
  if e.configured then { e with nodeAvailable := false }.rederive false else e

/-- R79: a rudder at reconfigure. -/
def Rudder.reconfigure (r : Rudder) : Rudder :=
  if r.configured then { r.nodeChange false with state := (r.nodeChange false).derive } else r

/-- R102: a coupling at reconfigure. -/
def Coupling.reconfigure (c : Coupling) : Coupling :=
  let d := { c with nodeAvailable := false, freshness := none, deadline := none }
  if !c.used then c else if c.state.watched then d.enter .UNKNOWN none else d

/-- R119: a meter at reconfigure. -/
def Meter.reconfigure (m : Meter) : Meter :=
  if m.used then { m with nodeAvailable := false, estimating := false, heldRack := 0, rackHold := 0 } else m

/-- R135: a tank at reconfigure. -/
def Tank.reconfigure (t : Tank) : Tank := if t.used then t.soundingLost else t

/-- R186: every block takes its reconfigure values. -/
def State.reconfigureBlocks (s : State) : State :=
  { s.reconfigureLines with
    helm := s.helm.reconfigure
    order := Order.por
    passTimer := none
    engineResult := none
    rudderResult := none
    tripLatch := { lead := false, helper := false, bow := false }
    engines := Vector.ofFn fun i : Fin 8 => s.engines[i].reconfigure
    rudders := Vector.ofFn fun i : Fin 8 => s.rudders[i].reconfigure
    couplings := Vector.ofFn fun i : Fin 24 => s.couplings[i].reconfigure
    ceilings := { c := 1000, k := 1000 }
    meters := Vector.ofFn fun i : Fin 16 => s.meters[i].reconfigure
    estimationTimer := none
    tanks := Vector.ofFn fun i : Fin 8 => s.tanks[i].reconfigure
    phase := { s.phase with phase := .CONFIGURING, secondsTimer := none } }

/-- Whether a reconfigure changes the state of an engine, of a rudder, of a coupling. -/
def State.enginesChange (s : State) : Bool := s.engines.toList.any fun e => decide (e.reconfigure.state ≠ e.state)

def State.ruddersChange (s : State) : Bool := s.rudders.toList.any fun r => decide (r.reconfigure.state ≠ r.state)

def State.couplingsChange (s : State) : Bool := s.couplings.toList.any fun c => decide (c.reconfigure.state ≠ c.state)

/-- R186: a reconfigure that passes: the blocks' values, the events, and the answer BAD_PHASE to a claim in flight (R23). -/
def State.reconfigure (s : State) : State :=
  answerClaim s.helm.requester .BAD_PHASE
    ((((((s.reconfigureBlocks.post .PHASE_CHANGED).post .HELM_CHANGED).postIf s.enginesChange .ENGINE_CHANGED).postIf
      s.ruddersChange .RUDDER_CHANGED).postIf s.couplingsChange .COUPLING_CHANGED).postIf
      (decide (s.ceilings ≠ { c := 1000, k := 1000 })) .CEILING_CHANGED)

/-- R186. -/
def decideReconfigure (p : Port) : Act :=
  holderOnly p fun s => if s.atRest then doneWith State.reconfigure s else answer .NOT_READY s

def execReconfigure (p : Port) (tag : Byte) (s : State) : Out := request p tag 0x5A (decideReconfigure p) s

/-! ## The seconds timer (R181) and full reset (R187) -/

/-- R181. -/
def secondStep (t : Nat) (s : State) : State :=
  { s with phase := { s.phase with seconds := (s.phase.seconds + 1) % 4294967296, secondsTimer := some (t + ms 1000) } }

def execSecondsTimerExpiry (s : State) : Out := live s fun s => onExpiry s.phase.secondsTimer secondStep s

/-- R175: a port's pending set is empty while full reset is in progress. -/
def PortRec.hush (r : PortRec) : PortRec := { r with pending := 0 }

/-- R187: full reset begins. What the part was doing is abandoned, and it does nothing until the reset ends (log 7). -/
def State.beginReset (s : State) : State :=
  let t := State.por s.now s.choices s.levels s.straps s.pending
  { t with inReset := true, ports := { l := t.ports.l.hush, h := t.ports.h.hush, e := t.ports.e.hush } }

def execFullReset (s : State) : Out := .next s.beginReset

/-- R187: full reset ends with the straps read; it ends only where it is in progress. -/
def execResetEnd (straps : Straps) (s : State) : Out :=
  .next (if s.inReset then State.por s.now s.choices s.levels straps s.pending else s)

end Sys2Proof.Machine
end

