-- ==== Sys2Proof/Machine/Ports.lean ====
section
/-! DEFINITION. Master ports (10): event requests, port status and the transmitter. -/

namespace Sys2Proof.Machine

open Sys2Proof

/-! ## Events (R176, R190) -/

/-- R190: a set of the 22 kinds; none where it names a position beyond them. -/
def eventSetOf (v : BitVec 24) : Option EventSet := if v.toNat < 4194304 then some (BitVec.setWidth 22 v) else none

def decideReadEvents (p : Port) : Act :=
  readWith fun s => encEvents (s.port p).pending ++ encEvents (s.port p).mask

def execReadEvents (p : Port) (tag : Byte) (s : State) : Out := request p tag 0x50 (decideReadEvents p) s

/-- R176: the kinds named are removed, and the body carries the set after the clear. -/
def clearKinds (p : Port) (set : EventSet) : Act := fun s =>
  (s.modPort p fun r => { r with pending := r.pending &&& ~~~set },
    .answered .DONE (encEvents ((s.port p).pending &&& ~~~set)))

def decideClearEvents (p : Port) (set : BitVec 24) : Act := orElse (eventSetOf set) .BAD_VALUE (clearKinds p)

def execClearEvents (p : Port) (tag : Byte) (set : BitVec 24) (s : State) : Out :=
  request p tag 0x51 (decideClearEvents p set) s

/-- R176: the mask becomes the set, and the body carries it. -/
def setMask (p : Port) (set : EventSet) : Act := fun s =>
  (s.modPort p fun r => { r with mask := set }, .answered .DONE (encEvents set))

def decideSetEventMask (p : Port) (set : BitVec 24) : Act := orElse (eventSetOf set) .BAD_VALUE (setMask p)

def execSetEventMask (p : Port) (tag : Byte) (set : BitVec 24) (s : State) : Out :=
  request p tag 0x52 (decideSetEventMask p set) s

/-! ## READ_PORT_STATUS (R178) -/

/-- R178: the rate in bit/s. -/
def Rate.bitsPerSecond : Rate → Nat
  | .r115200 => 115200
  | .r460800 => 460800

/-- R178: the status record. The request read is decided as it is taken, so its own slot is not shown (log 14). -/
def PortRec.body (r : PortRec) : List Byte :=
  be 3 r.rate.bitsPerSecond ++ be 2 r.badCheck ++ be 2 r.truncated ++ be 2 r.oversize ++ be 2 r.busy
    ++ encOpt 2 (fun x : Slot => [x.code, x.tag]) r.slot ++ be 1 r.replies.length

/-- R178: a clearing read sets the four counts to 0. -/
def PortRec.clearCounts (r : PortRec) : PortRec := { r with badCheck := 0, truncated := 0, oversize := 0, busy := 0 }

/-- R178: the reply carries the values held before a clear. -/
def readStatusOf (q : Port) (clear : Bool) : Act := fun s =>
  (if clear then s.modPort q PortRec.clearCounts else s, .answered .DONE (s.port q).body)

/-- R178. -/
def decideReadPortStatus (p : Port) (port clear : Byte) : Act :=
  orElse (portOf port) .BAD_INDEX fun q =>
    require (!(decide (clear = 1) && decide (q ≠ p))) .NOT_PERMITTED (orElse (flagOf clear) .BAD_VALUE (readStatusOf q))

def execReadPortStatus (p : Port) (tag port clear : Byte) (s : State) : Out :=
  request p tag 0x53 (decideReadPortStatus p port clear) s

/-! ## The transmitter (R171) -/

/-- R169, R171: the level of the port's transmit output: the bits of the oldest reply, byte after byte, and high while
idle. -/
def PortRec.txLevel (now : Nat) (r : PortRec) : Bool :=
  match r.txDone, r.replies with
  | some d, x :: _ =>
    (x.bytes.flatMap byteBits).getD ((now - (d - r.rate.byteTime * x.size)) / r.rate.bitTime) true
  | _, _ => true

/-- R171: the last CRC byte of the oldest reply has been sent; it leaves the queue, and the next follows directly. -/
def PortRec.sentOne (t : Nat) (r : PortRec) : PortRec :=
  match r.replies.drop 1 with
  | [] => { r with replies := [], txDone := none }
  | x :: rest => { r with replies := x :: rest, txDone := some (t + r.rate.byteTime * x.size) }

def execReplySent (p : Port) (s : State) : Out :=
  live s fun s => onExpiry (s.port p).txDone (fun t s => s.modPort p (PortRec.sentOne t)) s

end Sys2Proof.Machine
end

