-- ==== Sys2Proof/Machine/Frames.lean ====
section
/-! DEFINITION. Master ports (10): the routing of a frame's request (R172, R189), the check of a completed frame and the
assembly of frames from bytes (R170). -/

namespace Sys2Proof.Machine

open Sys2Proof

/-! ## Routing (R189) -/

/-- R189: the parameter bytes a request code fixes; none for an unknown code. -/
def paramCount (code : Nat) : Option Nat :=
  match code with
  | 0x01 => some 0
  | 0x02 => some 1
  | 0x03 => some 0
  | 0x04 => some 0
  | 0x05 => some 0
  | 0x06 => some 1
  | 0x07 => some 5
  | 0x08 => some 0
  | 0x10 => some 0
  | 0x11 => some 3
  | 0x12 => some 0
  | 0x18 => some 1
  | 0x19 => some 23
  | 0x1A => some 1
  | 0x1B => some 1
  | 0x1C => some 1
  | 0x20 => some 1
  | 0x21 => some 7
  | 0x22 => some 1
  | 0x23 => some 0
  | 0x28 => some 1
  | 0x29 => some 16
  | 0x2A => some 1
  | 0x2B => some 1
  | 0x2C => some 1
  | 0x2D => some 5
  | 0x2E => some 1
  | 0x2F => some 0
  | 0x30 => some 2
  | 0x31 => some 13
  | 0x32 => some 5
  | 0x38 => some 1
  | 0x39 => some 25
  | 0x3A => some 6
  | 0x3B => some 2
  | 0x3C => some 4
  | 0x40 => some 13
  | 0x41 => some 1
  | 0x42 => some 0
  | 0x43 => some 1
  | 0x44 => some 1
  | 0x48 => some 7
  | 0x49 => some 3
  | 0x4A => some 2
  | 0x4B => some 1
  | 0x50 => some 0
  | 0x51 => some 3
  | 0x52 => some 3
  | 0x53 => some 2
  | 0x58 => some 0
  | 0x59 => some 0
  | 0x5A => some 0
  | _ => none

/-- An optional parameter of one value byte. -/
def opt8 (ps : List Byte) (i : Nat) : OptParam 8 := { presence := u8 ps i, value := u8 ps (i + 1) }

/-- R189: the 21 configuration bytes of WRITE_ENGINE. -/
def engineParamsAt (ps : List Byte) (i : Nat) : EngineParams where
  station := u8 ps i
  axis := u8 ps (i + 1)
  side := u8 ps (i + 2)
  weight := u8 ps (i + 3)
  idleRpm := u16 ps (i + 4)
  maxRpm := u16 ps (i + 6)
  upRamp := u16 ps (i + 8)
  downRamp := u16 ps (i + 10)
  asternLimit := u16 ps (i + 12)
  economyCap := u16 ps (i + 14)
  ratedRate := u16 ps (i + 16)
  feedTank := u8 ps (i + 18)
  meter := opt8 ps (i + 19)

def rudderParamsAt (ps : List Byte) (i : Nat) : RudderParams where
  station := u8 ps i
  kind := u8 ps (i + 1)
  maxAngle := u16 ps (i + 2)
  slew := u8 ps (i + 4)

def couplingParamsAt (ps : List Byte) (i : Nat) : CouplingParams where
  kind := u8 ps i
  slackLevel := u16 ps (i + 1)
  target := u16 ps (i + 3)
  band := u16 ps (i + 5)
  strainLevel := u16 ps (i + 7)
  recoveryLevel := u16 ps (i + 9)
  renderLevel := u16 ps (i + 11)
  autoTend := u8 ps (i + 13)

def meterParamsAt (ps : List Byte) (i : Nat) : MeterParams where
  kind := u8 ps i
  engine := opt8 ps (i + 1)
  weight1 := u16 ps (i + 3)
  weight2 := u16 ps (i + 5)
  alpha := u16 ps (i + 7)
  limit := u16 ps (i + 9)

def tankParamsAt (ps : List Byte) (i : Nat) : TankParams where
  station := u8 ps i
  capacity := u24 ps (i + 1)
  high := u24 ps (i + 4)
  low := u24 ps (i + 7)
  reserve := u24 ps (i + 10)
  empty := u24 ps (i + 13)
  hysteresis := { presence := u8 ps (i + 16), value := u16 ps (i + 17) }
  fitted := u8 ps (i + 19)
  source := u8 ps (i + 20)
  limit := u16 ps (i + 21)

def movementParamsAt (ps : List Byte) (i : Nat) : MovementParams where
  kind := u8 ps i
  source := opt8 ps (i + 1)
  destination := u8 ps (i + 3)
  meter := u8 ps (i + 4)
  pumpLine := u8 ps (i + 5)
  pumpAddress := u8 ps (i + 6)
  mode := u8 ps (i + 7)
  target := { presence := u8 ps (i + 8), value := u24 ps (i + 9) }

def nodeParamsAt (ps : List Byte) (i : Nat) : NodeParams where
  kind := u8 ps i
  address := u8 ps (i + 1)
  bound := opt8 ps (i + 2)

/-- The take-over line of a port (R16). -/
def takeLine (lv : LineLevels) : Port → Bool
  | .L => lv.takeL
  | .H => lv.takeH
  | .E => false

/-- R172, item 5: the owning block's decision of a request code, with its parameters. -/
def routed (p : Port) (code : Nat) (ps : List Byte) (lv : LineLevels) : Option Act :=
  match code with
  | 0x01 => some (decideClaimHelm p)
  | 0x02 => some (decideAnswerHelm p (u8 ps 0))
  | 0x03 => some (decideCancel p)
  | 0x04 => some (decideReleaseHelm p)
  | 0x05 => some (decideTakeHelm p (takeLine lv p))
  | 0x06 => some (decideSetYieldPolicy p (u8 ps 0))
  | 0x07 => some (decideSetOrder p (u16 ps 0) (u16 ps 2) (u8 ps 4))
  | 0x08 => some decideReadHelm
  | 0x10 => some decideReadAllocation
  | 0x11 => some (decideWriteParameters p (u8 ps 0) (u16 ps 1))
  | 0x12 => some decideReadParameters
  | 0x18 => some (decideReadEngine (u8 ps 0))
  | 0x19 => some (decideWriteEngine (u8 ps 0) (u8 ps 1) (engineParamsAt ps 2))
  | 0x1A => some (decideSetStandby p (u8 ps 0))
  | 0x1B => some (decideReinstate p (u8 ps 0))
  | 0x1C => some (decideClearTrip p (u8 ps 0) lv.trip)
  | 0x20 => some (decideReadRudder (u8 ps 0))
  | 0x21 => some (decideWriteRudder (u8 ps 0) (u8 ps 1) (rudderParamsAt ps 2))
  | 0x22 => some (decideClearRudderFault p (u8 ps 0))
  | 0x23 => some decideReadSteering
  | 0x28 => some (decideReadCoupling (u8 ps 0))
  | 0x29 => some (decideWriteCoupling (u8 ps 0) (u8 ps 1) (couplingParamsAt ps 2))
  | 0x2A => some (decideMakeUp p (u8 ps 0))
  | 0x2B => some (decideReleaseCoupling p (u8 ps 0))
  | 0x2C => some (decideResetCoupling p (u8 ps 0))
  | 0x2D => some (decideSetTension p (u8 ps 0) (u16 ps 1) (u16 ps 3))
  | 0x2E => some (decideReadPeak (u8 ps 0))
  | 0x2F => some decideReadCeilings
  | 0x30 => some (decideReadMeter p (u8 ps 0) (u8 ps 1))
  | 0x31 => some (decideWriteMeter (u8 ps 0) (u8 ps 1) (meterParamsAt ps 2))
  | 0x32 => some (decideSetMeter p (u8 ps 0) (u16 ps 1) (u16 ps 3))
  | 0x38 => some (decideReadTank (u8 ps 0))
  | 0x39 => some (decideWriteTank (u8 ps 0) (u8 ps 1) (tankParamsAt ps 2))
  | 0x3A => some (decideRebaseTank p (u8 ps 0) { presence := u8 ps 1, value := u32 ps 2 })
  | 0x3B => some (decideSetFeed p (u8 ps 0) (u8 ps 1))
  | 0x3C => some (decideSetTank p (u8 ps 0) (u8 ps 1) (u16 ps 2))
  | 0x40 => some (decideStartMovement p (u8 ps 0) (movementParamsAt ps 1))
  | 0x41 => some (decideStopMovement (u8 ps 0))
  | 0x42 => some (decideRetireMovement p)
  | 0x43 => some (decideReadMovementChannel (u8 ps 0))
  | 0x44 => some (decideReadMovementRecord (u8 ps 0))
  | 0x48 => some (decideWriteNode (u8 ps 0) (u8 ps 1) (u8 ps 2) (nodeParamsAt ps 3))
  | 0x49 => some (decideReadNode (u8 ps 0) (u8 ps 1) (u8 ps 2))
  | 0x4A => some (decideReadLine (u8 ps 0) (u8 ps 1))
  | 0x4B => some (decideRestartLine (u8 ps 0))
  | 0x50 => some (decideReadEvents p)
  | 0x51 => some (decideClearEvents p (u24 ps 0))
  | 0x52 => some (decideSetEventMask p (u24 ps 0))
  | 0x53 => some (decideReadPortStatus p (u8 ps 0) (u8 ps 1))
  | 0x58 => some decideReadPhase
  | 0x59 => some (decideCommitConfig lv.trip)
  | 0x5A => some (decideReconfigure p)
  | _ => none

/-- R172, item 4: none for an unknown code, and for a parameter length other than the one the code fixes. -/
def route (p : Port) (code : Byte) (ps : List Byte) (lv : LineLevels) : Option Act :=
  if paramCount code.toNat = some ps.length then routed p code.toNat ps lv else none

/-! ## Completed frames (R170, R172) -/

/-- R170, items 5 and 6: a frame is discarded, and the bad-check counter increased. -/
def PortRec.discardBad (r : PortRec) : PortRec := { r with badCheck := bump16 r.badCheck, receiver := .hunting }

/-- R170, item 2: a length outside 2 to 64. -/
def PortRec.discardLong (r : PortRec) : PortRec := { r with oversize := bump16 r.oversize, receiver := .hunting }

/-- R170, item 4: a gap. -/
def PortRec.discardShort (r : PortRec) : PortRec := { r with truncated := bump16 r.truncated, receiver := .hunting }

/-- R170, item 6, and R172: a completed frame. -/
def receiveFrame (p : Port) (f : RequestFrame) (lv : LineLevels) (s : State) : State :=
  if 62 < f.params.length then s.modPort p fun r => { r with oversize := bump16 r.oversize }
  else if crc16 (coveredBytes f) = f.crc then handleFrame p f.tag f.code (route p f.code f.params lv) s
  else s.modPort p fun r => { r with badCheck := bump16 r.badCheck }

def execRequestFrameReceived (p : Port) (frame : RequestFrame) (levels : LineLevels) (s : State) : Out :=
  live s (receiveFrame p frame levels)

/-! ## Assembly from bytes (R169, R170) -/

/-- The frame whose bytes after the length these are. -/
def frameOf (length : Nat) (bytes : List Byte) : RequestFrame where
  tag := u8 bytes 0
  code := u8 bytes 1
  params := (bytes.take length).drop 2
  crc := u16 bytes length

/-- R170, items 1 to 3 and 5: a byte at the receiver, and the frame it completes. -/
def PortRec.takeByte (b : Byte) (framing : Bool) (r : PortRec) : PortRec × Option RequestFrame :=
  match r.receiver with
  | .hunting => (if !framing && decide (b = 0xA5) then { r with receiver := .started } else r, none)
  | .started =>
    if framing then (r.discardBad, none)
    else if within 2 64 b.toNat then ({ r with receiver := .body b.toNat [] }, none)
    else (r.discardLong, none)
  | .body length bytes =>
    if framing then (r.discardBad, none)
    else if (bytes ++ [b]).length = length + 2 then
      ({ r with receiver := .hunting }, some (frameOf length (bytes ++ [b])))
    else ({ r with receiver := .body length (bytes ++ [b]) }, none)

/-- Whether a frame is in progress. -/
def PortRec.receiving (r : PortRec) : Bool := decide (r.receiver ≠ .hunting)

/-- R170: a byte received, whose end is `t`. -/
def receiveByteAt (p : Port) (t : Nat) (b : Byte) (framing : Bool) (lv : LineLevels) (s : State) : State :=
  let x := (s.port p).takeByte b framing
  let s := s.setPort p { x.1 with lastByte := t }
  match x.2 with
  | none => s
  | some f => receiveFrame p f lv s

/-- R169: whether it is a byte that is coming in; an edge whose start bit is decided high begins none (log 38). -/
def Incoming.isByte (x : Incoming) : Bool := !(majority x.samples.start)

/-- R169: when what began at an edge is over: a byte at the end of its stop bit, a glitch when its start bit has been
decided. -/
def Incoming.endsAt (rate : Rate) (x : Incoming) : Nat :=
  x.since + if x.isByte then rate.byteTime else rate.startDecided

/-- R169: from when the next edge is looked for: when the stop bit, or the start bit of a glitch, has been decided. -/
def Incoming.freeFrom (rate : Rate) (x : Incoming) : Nat :=
  x.since + if x.isByte then rate.stopDecided else rate.startDecided

/-- R169: what began at an edge is over; a byte is received, with the input lines at those levels (log 6). -/
def byteEnds (p : Port) (lv : LineLevels) (s : State) : State :=
  match (s.port p).incoming with
  | none => s
  | some x =>
    let s := s.modPort p fun r => { r with incoming := none }
    if x.isByte then
      receiveByteAt p (x.since + (s.port p).rate.byteTime) (receiveByte x.samples).1 (receiveByte x.samples).2 lv s
    else s

/-- What is coming in is over where the receiver looks for an edge again. -/
def freePort (p : Port) (s : State) : State :=
  match (s.port p).incoming with
  | none => s
  | some x => if x.freeFrom (s.port p).rate ≤ s.now then byteEnds p x.levels s else s

/-- R170, item 4: a frame is discarded where more than 2 ms pass before the next byte begins. -/
def PortRec.gapFirst (now : Nat) (r : PortRec) : PortRec :=
  if r.receiving ∧ r.lastByte + ms 2 < now then r.discardShort else r

/-- R169, R170: the link falls. A receiver that looks for an edge takes it, after what it had received before has been
decided. -/
def portEdge (p : Port) (x : ByteSamples) (lv : LineLevels) (s : State) : State :=
  let s := freePort p s
  if (s.port p).incoming = none then
    s.modPort p fun r => { r.gapFirst s.now with incoming := some { since := s.now, samples := x, levels := lv } }
  else s

/-- R169: when what is coming in is over. -/
def PortRec.byteEndsAt (r : PortRec) : Option Nat := r.incoming.map (Incoming.endsAt r.rate)

/-- R169, R170: the link falls, or what began at an edge is over. -/
def execPortByteReceived (p : Port) (event : ByteEvent) (levels : LineLevels) (s : State) : Out :=
  live s fun s =>
    match event with
    | .edge x => portEdge p x levels s
    | .ends => onExpiry (s.port p).byteEndsAt (fun _ => byteEnds p levels) s

/-- R170, item 4: when the frame in progress is discarded for a gap; a byte coming in, which began before that, ends the
gap. -/
def PortRec.gapAt (r : PortRec) : Option Nat :=
  if r.receiving ∧ ¬(r.incoming.any Incoming.isByte) then some (r.lastByte + ms 2 + 1) else none

def execFrameGapTimeout (p : Port) (s : State) : Out :=
  live s fun s => onExpiry (s.port p).gapAt (fun _ s => s.modPort p PortRec.discardShort) s

end Sys2Proof.Machine
end

