-- ==== Sys2Proof/Machine/Dispatch.lean ====
section
/-! DEFINITION. What each command does: one arm for each constructor of `Instr`. -/

namespace Sys2Proof.Machine

open Sys2Proof

def exec (i : Instr) (s : State) : Host.Outcome State Fault Refusal :=
  match i with
  | .claimHelm p tag => Sys2Proof.Machine.execClaimHelm p tag s
  | .answerHelm p tag choice => Sys2Proof.Machine.execAnswerHelm p tag choice s
  | .cancel p tag => Sys2Proof.Machine.execCancel p tag s
  | .releaseHelm p tag => Sys2Proof.Machine.execReleaseHelm p tag s
  | .takeHelm p tag line => Sys2Proof.Machine.execTakeHelm p tag line s
  | .setYieldPolicy p tag policy => Sys2Proof.Machine.execSetYieldPolicy p tag policy s
  | .setOrder p tag thrust turn mode => Sys2Proof.Machine.execSetOrder p tag thrust turn mode s
  | .readHelm p tag => Sys2Proof.Machine.execReadHelm p tag s
  | .queryDeadlineExpiry => Sys2Proof.Machine.execQueryDeadlineExpiry s
  | .silenceDeadlineExpiry => Sys2Proof.Machine.execSilenceDeadlineExpiry s
  | .decayTimerExpiry => Sys2Proof.Machine.execDecayTimerExpiry s
  | .passTimerExpiry => Sys2Proof.Machine.execPassTimerExpiry s
  | .readAllocation p tag => Sys2Proof.Machine.execReadAllocation p tag s
  | .writeParameters p tag parameter value => Sys2Proof.Machine.execWriteParameters p tag parameter value s
  | .readParameters p tag => Sys2Proof.Machine.execReadParameters p tag s
  | .passResultTakenEngines => Sys2Proof.Machine.execPassResultTakenEngines s
  | .passResultTakenRudders => Sys2Proof.Machine.execPassResultTakenRudders s
  | .readEngine p tag slot => Sys2Proof.Machine.execReadEngine p tag slot s
  | .writeEngine p tag slot marker cfg => Sys2Proof.Machine.execWriteEngine p tag slot marker cfg s
  | .setStandby p tag slot => Sys2Proof.Machine.execSetStandby p tag slot s
  | .reinstate p tag slot => Sys2Proof.Machine.execReinstate p tag slot s
  | .clearTrip p tag station lines => Sys2Proof.Machine.execClearTrip p tag station lines s
  | .tripLineAsserted station => Sys2Proof.Machine.execTripLineAsserted station s
  | .dwellDeadlineExpiry slot => Sys2Proof.Machine.execDwellDeadlineExpiry slot s
  | .gearConfirmExpiry slot => Sys2Proof.Machine.execGearConfirmExpiry slot s
  | .trackingDeadlineExpiry slot => Sys2Proof.Machine.execTrackingDeadlineExpiry slot s
  | .engineReportTaken slot report => Sys2Proof.Machine.execEngineReportTaken slot report s
  | .engineNodeStateTaken slot state => Sys2Proof.Machine.execEngineNodeStateTaken slot state s
  | .readRudder p tag slot => Sys2Proof.Machine.execReadRudder p tag slot s
  | .writeRudder p tag slot marker cfg => Sys2Proof.Machine.execWriteRudder p tag slot marker cfg s
  | .clearRudderFault p tag slot => Sys2Proof.Machine.execClearRudderFault p tag slot s
  | .readSteering p tag => Sys2Proof.Machine.execReadSteering p tag s
  | .rudderReportTaken slot angle => Sys2Proof.Machine.execRudderReportTaken slot angle s
  | .rudderNodeStateTaken slot state => Sys2Proof.Machine.execRudderNodeStateTaken slot state s
  | .jamDeadlineExpiry slot => Sys2Proof.Machine.execJamDeadlineExpiry slot s
  | .readCoupling p tag index => Sys2Proof.Machine.execReadCoupling p tag index s
  | .writeCoupling p tag index marker cfg => Sys2Proof.Machine.execWriteCoupling p tag index marker cfg s
  | .makeUp p tag index => Sys2Proof.Machine.execMakeUp p tag index s
  | .releaseCoupling p tag index => Sys2Proof.Machine.execReleaseCoupling p tag index s
  | .resetCoupling p tag index => Sys2Proof.Machine.execResetCoupling p tag index s
  | .setTension p tag index target band => Sys2Proof.Machine.execSetTension p tag index target band s
  | .readPeak p tag index => Sys2Proof.Machine.execReadPeak p tag index s
  | .readCeilings p tag => Sys2Proof.Machine.execReadCeilings p tag s
  | .winchReportTaken index report => Sys2Proof.Machine.execWinchReportTaken index report s
  | .winchNodeStateTaken index state => Sys2Proof.Machine.execWinchNodeStateTaken index state s
  | .freshnessDeadlineExpiry index => Sys2Proof.Machine.execFreshnessDeadlineExpiry index s
  | .heaveDeadlineExpiry index => Sys2Proof.Machine.execHeaveDeadlineExpiry index s
  | .releaseDeadlineExpiry index => Sys2Proof.Machine.execReleaseDeadlineExpiry index s
  | .slackDwellExpiry index => Sys2Proof.Machine.execSlackDwellExpiry index s
  | .readMeter p tag index clear => Sys2Proof.Machine.execReadMeter p tag index clear s
  | .writeMeter p tag index marker cfg => Sys2Proof.Machine.execWriteMeter p tag index marker cfg s
  | .setMeter p tag index alpha limit => Sys2Proof.Machine.execSetMeter p tag index alpha limit s
  | .meterReportTaken index report => Sys2Proof.Machine.execMeterReportTaken index report s
  | .meterNodeStateTaken index state => Sys2Proof.Machine.execMeterNodeStateTaken index state s
  | .estimationTimerExpiry => Sys2Proof.Machine.execEstimationTimerExpiry s
  | .readTank p tag index => Sys2Proof.Machine.execReadTank p tag index s
  | .writeTank p tag index marker cfg => Sys2Proof.Machine.execWriteTank p tag index marker cfg s
  | .rebaseTank p tag index value => Sys2Proof.Machine.execRebaseTank p tag index value s
  | .setFeed p tag engine tank => Sys2Proof.Machine.execSetFeed p tag engine tank s
  | .setTank p tag index source limit => Sys2Proof.Machine.execSetTank p tag index source limit s
  | .tankReportTaken index report => Sys2Proof.Machine.execTankReportTaken index report s
  | .tankNodeStateTaken index state => Sys2Proof.Machine.execTankNodeStateTaken index state s
  | .discrepancyDeadlineExpiry index => Sys2Proof.Machine.execDiscrepancyDeadlineExpiry index s
  | .startMovement p tag channel req => Sys2Proof.Machine.execStartMovement p tag channel req s
  | .stopMovement p tag channel => Sys2Proof.Machine.execStopMovement p tag channel s
  | .retireMovement p tag => Sys2Proof.Machine.execRetireMovement p tag s
  | .readMovementChannel p tag channel => Sys2Proof.Machine.execReadMovementChannel p tag channel s
  | .readMovementRecord p tag index => Sys2Proof.Machine.execReadMovementRecord p tag index s
  | .movementNodeStateTaken node state => Sys2Proof.Machine.execMovementNodeStateTaken node state s
  | .pumpReportTaken line address status => Sys2Proof.Machine.execPumpReportTaken line address status s
  | .settlingDeadlineExpiry channel => Sys2Proof.Machine.execSettlingDeadlineExpiry channel s
  | .writeNode p tag line position marker cfg => Sys2Proof.Machine.execWriteNode p tag line position marker cfg s
  | .readNode p tag line position clear => Sys2Proof.Machine.execReadNode p tag line position clear s
  | .readLine p tag line clear => Sys2Proof.Machine.execReadLine p tag line clear s
  | .restartLine p tag line => Sys2Proof.Machine.execRestartLine p tag line s
  | .pollTransmit line => Sys2Proof.Machine.execPollTransmit line s
  | .quietWaitTimeout line => Sys2Proof.Machine.execQuietWaitTimeout line s
  | .replyWindowClose line => Sys2Proof.Machine.execReplyWindowClose line s
  | .replyEnd line => Sys2Proof.Machine.execReplyEnd line s
  | .fieldCharacterReceived line event => Sys2Proof.Machine.execFieldCharacterReceived line event s
  | .requestFrameReceived p frame levels => Sys2Proof.Machine.execRequestFrameReceived p frame levels s
  | .frameGapTimeout p => Sys2Proof.Machine.execFrameGapTimeout p s
  | .replySent p => Sys2Proof.Machine.execReplySent p s
  | .readEvents p tag => Sys2Proof.Machine.execReadEvents p tag s
  | .clearEvents p tag set => Sys2Proof.Machine.execClearEvents p tag set s
  | .setEventMask p tag set => Sys2Proof.Machine.execSetEventMask p tag set s
  | .readPortStatus p tag port clear => Sys2Proof.Machine.execReadPortStatus p tag port clear s
  | .readPhase p tag => Sys2Proof.Machine.execReadPhase p tag s
  | .commitConfig p tag lines => Sys2Proof.Machine.execCommitConfig p tag lines s
  | .reconfigure p tag => Sys2Proof.Machine.execReconfigure p tag s
  | .secondsTimerExpiry => Sys2Proof.Machine.execSecondsTimerExpiry s
  | .fullReset => Sys2Proof.Machine.execFullReset s
  | .resetEnd straps => Sys2Proof.Machine.execResetEnd straps s
  | .portByteReceived p event levels => Sys2Proof.Machine.execPortByteReceived p event levels s
  | .pollTransmissionEnd line => Sys2Proof.Machine.execPollTransmissionEnd line s

end Sys2Proof.Machine
end

