-- ==== Sys2Proof/Machine/Schedule.lean ====
section
/-! DEFINITION. What the part does while no command waits: its own events that are due come into the queue, and where none
is, time passes (log 2). -/

namespace Sys2Proof.Machine

open Sys2Proof

/-- A deadline or timer and the command that is its expiry. -/
def timed (t : Option Nat) (i : Instr) : List (Nat × Instr) :=
  match t with
  | none => []
  | some n => [(n, i)]

/-- The deadlines of an engine slot (R46). -/
def engineTimers (s : State) (i : Fin 8) : List (Nat × Instr) :=
  timed s.engines[i].dwell (.dwellDeadlineExpiry i) ++ timed s.engines[i].confirm (.gearConfirmExpiry i)
    ++ timed s.engines[i].trackDeadline (.trackingDeadlineExpiry i)

/-- The deadlines of a coupling (R81). -/
def couplingTimers (s : State) (i : Fin 24) : List (Nat × Instr) :=
  timed s.couplings[i].freshness (.freshnessDeadlineExpiry i)
    ++ timed (s.couplings[i].deadlineOf .heave) (.heaveDeadlineExpiry i)
    ++ timed (s.couplings[i].deadlineOf .release) (.releaseDeadlineExpiry i)
    ++ timed (s.couplings[i].deadlineOf .slackDwell) (.slackDwellExpiry i)

/-- What falls due on a field line (R154, R155, R160 to R162). -/
def lineTimers (s : State) (l : Line) : List (Nat × Instr) :=
  timed (s.line l).transmitAt (.pollTransmit l) ++ timed (s.line l).giveUpAt (.quietWaitTimeout l)
    ++ timed (s.line l).transmissionEndsAt (.pollTransmissionEnd l)
    ++ timed (s.line l).windowClosesAt (.replyWindowClose l) ++ timed (s.line l).replyEndsAt (.replyEnd l)
    ++ timed (s.line l).receiver.endsAt (.fieldCharacterReceived l .ends)

/-- What falls due at a port (R169 to R171). -/
def portTimers (s : State) (p : Port) : List (Nat × Instr) :=
  timed (s.port p).gapAt (.frameGapTimeout p) ++ timed (s.port p).txDone (.replySent p)
    ++ (s.port p).incoming.toList.map fun x => (x.endsAt (s.port p).rate, .portByteReceived p .ends x.levels)

/-- Every deadline and timer of the part, with its expiry. -/
def State.timers (s : State) : List (Nat × Instr) :=
  timed s.helm.queryDeadline .queryDeadlineExpiry ++ timed s.helm.silenceDeadline .silenceDeadlineExpiry
    ++ timed s.helm.decayTimer .decayTimerExpiry ++ timed s.passTimer .passTimerExpiry
    ++ (List.finRange 8).flatMap (engineTimers s)
    ++ (List.finRange 8).flatMap (fun i => timed s.rudders[i].jamDeadline (.jamDeadlineExpiry i))
    ++ (List.finRange 24).flatMap (couplingTimers s)
    ++ timed s.estimationTimer .estimationTimerExpiry
    ++ (List.finRange 8).flatMap (fun i => timed s.tanks[i].discDeadline (.discrepancyDeadlineExpiry i))
    ++ (List.finRange 2).flatMap (fun i => timed s.channels[i].settling (.settlingDeadlineExpiry i))
    ++ lineTimers s .A ++ lineTimers s .B ++ portTimers s .L ++ portTimers s .H ++ portTimers s .E
    ++ timed s.phase.secondsTimer .secondsTimerExpiry

/-- What waits to be taken: the results of a pass (R43) and the oldest hand-over of each line (R165; log 9). -/
def State.offers (s : State) : List Instr :=
  (if s.engineResult.isSome then [.passResultTakenEngines] else [])
    ++ (if s.rudderResult.isSome then [.passResultTakenRudders] else [])
    ++ s.lines.a.handovers.take 1 ++ s.lines.b.handovers.take 1

/-- The earliest of some moments. -/
def earliest : List (Nat × Instr) → Option Nat
  | [] => none
  | x :: xs =>
    match earliest xs with
    | none => some x.1
    | some t => some (min x.1 t)

/-- What is due now: of the deadlines and timers that have been reached, the earliest; and what waits to be taken. -/
def State.due (s : State) : List Instr :=
  let reached := s.timers.filter fun x => decide (x.1 ≤ s.now)
  (reached.filter fun x => decide (some x.1 = earliest reached)).map Prod.snd ++ s.offers

/-- The part with an empty queue: an event that is due comes into the queue, chosen freely where there are several (log
12); where none is due, a unit of time passes. -/
def State.idle (s : State) : State :=
  match s.due with
  | [] => { s with now := s.now + 1 }
  | [c] => { s with pending := [c] }
  | c :: cs =>
    { s with
      choices := s.choices + 1
      pending := [(c :: cs).getD (Config.freeChoice s.choices % (cs.length + 1)) c] }

end Sys2Proof.Machine
end

