-- ==== Sys2Proof/Machine/Step.lean ====
section
/-! DEFINITION. One step of the part. -/

namespace Sys2Proof.Machine

open Sys2Proof

/-- The command at the front of the queue is taken, with the rest left waiting; on an empty queue the part is left to
itself (log 2). -/
def step (s : State) : Host.Outcome State Fault Refusal :=
  match s.pending with
  | c :: rest => exec c { s with pending := rest }
  | [] => .next s.idle

/-- The state with the command a word spells at the front of its queue; no row of the table gives bits, so none is. -/
def State.withFetchWord (s : State) (nbits w : Nat) : State :=
  match decodeTableWord nbits w with
  | some c => { s with pending := c :: s.pending }
  | none => s

end Sys2Proof.Machine
end

