-- ==== Sys2Proof/WellFormed.lean ====
section
/-! DEFINITION. Which commands can come from the world the spec describes: every report field lies in the range the
field line lets through (R161, R191), a pump address is a node address, and a completed frame has a length of 2 to 64.
The requests carry raw bytes, and every value of a byte may come: their checks are in their meanings. -/

namespace Sys2Proof

/-- R50, R191: rpm in 2 bytes, rack 0 to 1000. -/
def EngineReport.wf (r : EngineReport) : Bool := decide (r.rpm ≤ 65535) && decide (r.rack ≤ 1000)

/-- R86, R191: tension 0 to 2,000. -/
def WinchReport.wf (r : WinchReport) : Bool := decide (r.tension ≤ 2000)

/-- A 2-byte signed field. -/
def signed16 (x : Int) : Bool := decide (-32768 ≤ x) && decide (x ≤ 32767)

/-- R191: a count in 2 bytes; a temperature in 2 signed bytes other than 0x8000, which is the invalid marker. -/
def ChannelReport.wf (r : ChannelReport) : Bool :=
  decide (r.count ≤ 65535) &&
    match r.temp with
    | none => true
    | some t => signed16 t && decide (t ≠ -32768)

/-- R129: a level of 0 to 16,777,215 L. -/
def TankReport.wf (r : TankReport) : Bool := decide (r.level ≤ 16777215)

/-- R156: a node address is 1 to 120. -/
def addressWf (a : Nat) : Bool := decide (1 ≤ a) && decide (a ≤ 120)

/-- 10.2: the length byte, 2 to 64, counts the tag, the code and 0 to 62 parameter bytes. -/
def RequestFrame.wf (f : RequestFrame) : Bool := decide (f.params.length ≤ 62)

/-- The node of a MOVEMENT_NODE_STATE_TAKEN. -/
def MovementNode.wf : MovementNode → Bool
  | .meter _ => true
  | .pump _ a => addressWf a

/-- A command the world can send. -/
def Instr.WellFormed : Instr → Bool
  | .claimHelm .. => true
  | .answerHelm .. => true
  | .cancel .. => true
  | .releaseHelm .. => true
  | .takeHelm .. => true
  | .setYieldPolicy .. => true
  | .setOrder .. => true
  | .readHelm .. => true
  | .queryDeadlineExpiry => true
  | .silenceDeadlineExpiry => true
  | .decayTimerExpiry => true
  | .passTimerExpiry => true
  | .readAllocation .. => true
  | .writeParameters .. => true
  | .readParameters .. => true
  | .passResultTakenEngines => true
  | .passResultTakenRudders => true
  | .readEngine .. => true
  | .writeEngine .. => true
  | .setStandby .. => true
  | .reinstate .. => true
  | .clearTrip .. => true
  | .tripLineAsserted .. => true
  | .dwellDeadlineExpiry .. => true
  | .gearConfirmExpiry .. => true
  | .trackingDeadlineExpiry .. => true
  | .engineReportTaken _ r => r.wf
  | .engineNodeStateTaken .. => true
  | .readRudder .. => true
  | .writeRudder .. => true
  | .clearRudderFault .. => true
  | .readSteering .. => true
  | .rudderReportTaken _ a => signed16 a
  | .rudderNodeStateTaken .. => true
  | .jamDeadlineExpiry .. => true
  | .readCoupling .. => true
  | .writeCoupling .. => true
  | .makeUp .. => true
  | .releaseCoupling .. => true
  | .resetCoupling .. => true
  | .setTension .. => true
  | .readPeak .. => true
  | .readCeilings .. => true
  | .winchReportTaken _ r => r.wf
  | .winchNodeStateTaken .. => true
  | .freshnessDeadlineExpiry .. => true
  | .heaveDeadlineExpiry .. => true
  | .releaseDeadlineExpiry .. => true
  | .slackDwellExpiry .. => true
  | .readMeter .. => true
  | .writeMeter .. => true
  | .setMeter .. => true
  | .meterReportTaken _ r => r.ch1.wf && r.ch2.wf
  | .meterNodeStateTaken .. => true
  | .estimationTimerExpiry => true
  | .readTank .. => true
  | .writeTank .. => true
  | .rebaseTank .. => true
  | .setFeed .. => true
  | .setTank .. => true
  | .tankReportTaken _ r => r.wf
  | .tankNodeStateTaken .. => true
  | .discrepancyDeadlineExpiry .. => true
  | .startMovement .. => true
  | .stopMovement .. => true
  | .retireMovement .. => true
  | .readMovementChannel .. => true
  | .readMovementRecord .. => true
  | .movementNodeStateTaken n _ => n.wf
  | .pumpReportTaken _ a _ => addressWf a
  | .settlingDeadlineExpiry .. => true
  | .writeNode .. => true
  | .readNode .. => true
  | .readLine .. => true
  | .restartLine .. => true
  | .pollTransmit .. => true
  | .quietWaitTimeout .. => true
  | .replyWindowClose .. => true
  | .replyEnd .. => true
  | .fieldCharacterReceived .. => true
  | .requestFrameReceived _ f _ => f.wf
  | .frameGapTimeout .. => true
  | .replySent .. => true
  | .readEvents .. => true
  | .clearEvents .. => true
  | .setEventMask .. => true
  | .readPortStatus .. => true
  | .readPhase .. => true
  | .commitConfig .. => true
  | .reconfigure .. => true
  | .secondsTimerExpiry => true
  | .fullReset => true
  | .resetEnd .. => true
  | .portByteReceived .. => true
  | .pollTransmissionEnd .. => true

end Sys2Proof
end

