-- ==== Sys2Proof/Safety.lean ====
section
/-! DEFINITION. The conditions under which a request is taken, the laws of the part that every step keeps, and when the
events of the part fall due. -/

namespace Sys2Proof.Machine

open Sys2Proof

/-! ## When a request is taken -/

/-- R172: a valid frame on the port goes on to its request: the part is not in full reset, at most 5 replies are queued and
no request is in flight on the port. -/
abbrev Ready (p : Port) (s : State) : Prop :=
  s.inReset = false ∧ (s.port p).replies.length ≤ 5 ∧ (s.port p).slot = none

/-- A bridge port in RUNNING. -/
abbrev OnBridge (p : Port) (b : Bridge) (s : State) : Prop := bridgeOf p = some b ∧ s.running = true

/-- The holder's port in RUNNING. -/
abbrev HoldsHelm (p : Port) (b : Bridge) (s : State) : Prop := OnBridge p b s ∧ s.helm.holder = some b

/-- The part runs and is not in full reset: hand-overs are taken (R119, R135). -/
abbrev Running (s : State) : Prop := s.inReset = false ∧ s.running = true

/-! ## Effects that many statements name -/

/-- R17: the holder's port has been heard, and its silence deadline runs 3,000 ms from now. -/
def State.heard (s : State) : State :=
  { s with helm := { s.helm with silenceDeadline := some (s.now + ms 3000) } }

/-- R172, R173: the request slot of a port is free again. -/
def State.freed (p : Port) (s : State) : State := s.modPort p fun r => { r with slot := none }

/-- R10, R13, R15, R16: the record once `b` has become holder in place of `former` (R3). -/
def Helm.passedTo (b former : Bridge) (now : Nat) (h : Helm) : Helm where
  state := .HELD
  holder := some b
  requester := none
  queryDeadline := none
  silenceDeadline := some (now + ms 3000)
  lastHolder := some former
  takeOvers := h.takeOvers
  policyL := h.policyL
  policyH := h.policyH
  decayTimer := none

/-- R9: the record once a query has ended with the holder unchanged. -/
def Helm.queryOver (h : Helm) : Helm := { h with state := .HELD, queryDeadline := none, requester := none }

/-- An open query (R8, R9): `b` holds, `r` waits, and the claim with that tag is in flight on the port of `r`. -/
abbrev QueryOpen (b r : Bridge) (x : Slot) (s : State) : Prop :=
  s.helm.state = .QUERY ∧ s.helm.holder = some b ∧ s.helm.requester = some r ∧ r ≠ b
    ∧ (s.port (portOfBridge r)).slot = some x

/-! ## The requests (R189) -/

/-- The port and the tag of a request. -/
def requestFrom : Instr → Option (Port × Byte)
  | .claimHelm p tag => some (p, tag)
  | .answerHelm p tag _ => some (p, tag)
  | .cancel p tag => some (p, tag)
  | .releaseHelm p tag => some (p, tag)
  | .takeHelm p tag _ => some (p, tag)
  | .setYieldPolicy p tag _ => some (p, tag)
  | .setOrder p tag _ _ _ => some (p, tag)
  | .readHelm p tag => some (p, tag)
  | .readAllocation p tag => some (p, tag)
  | .writeParameters p tag _ _ => some (p, tag)
  | .readParameters p tag => some (p, tag)
  | .readEngine p tag _ => some (p, tag)
  | .writeEngine p tag _ _ _ => some (p, tag)
  | .setStandby p tag _ => some (p, tag)
  | .reinstate p tag _ => some (p, tag)
  | .clearTrip p tag _ _ => some (p, tag)
  | .readRudder p tag _ => some (p, tag)
  | .writeRudder p tag _ _ _ => some (p, tag)
  | .clearRudderFault p tag _ => some (p, tag)
  | .readSteering p tag => some (p, tag)
  | .readCoupling p tag _ => some (p, tag)
  | .writeCoupling p tag _ _ _ => some (p, tag)
  | .makeUp p tag _ => some (p, tag)
  | .releaseCoupling p tag _ => some (p, tag)
  | .resetCoupling p tag _ => some (p, tag)
  | .setTension p tag _ _ _ => some (p, tag)
  | .readPeak p tag _ => some (p, tag)
  | .readCeilings p tag => some (p, tag)
  | .readMeter p tag _ _ => some (p, tag)
  | .writeMeter p tag _ _ _ => some (p, tag)
  | .setMeter p tag _ _ _ => some (p, tag)
  | .readTank p tag _ => some (p, tag)
  | .writeTank p tag _ _ _ => some (p, tag)
  | .rebaseTank p tag _ _ => some (p, tag)
  | .setFeed p tag _ _ => some (p, tag)
  | .setTank p tag _ _ _ => some (p, tag)
  | .startMovement p tag _ _ => some (p, tag)
  | .stopMovement p tag _ => some (p, tag)
  | .retireMovement p tag => some (p, tag)
  | .readMovementChannel p tag _ => some (p, tag)
  | .readMovementRecord p tag _ => some (p, tag)
  | .writeNode p tag _ _ _ _ => some (p, tag)
  | .readNode p tag _ _ _ => some (p, tag)
  | .readLine p tag _ _ => some (p, tag)
  | .restartLine p tag _ => some (p, tag)
  | .readEvents p tag => some (p, tag)
  | .clearEvents p tag _ => some (p, tag)
  | .setEventMask p tag _ => some (p, tag)
  | .readPortStatus p tag _ _ => some (p, tag)
  | .readPhase p tag => some (p, tag)
  | .commitConfig p tag _ => some (p, tag)
  | .reconfigure p tag => some (p, tag)
  | _ => none

/-- R189: the request that a code carries, with its parameters where the table puts them. -/
def requestWith (p : Port) (tag : Byte) (code : Nat) (ps : List Byte) (lv : LineLevels) : Option Instr :=
  match code with
  | 0x01 => some (.claimHelm p tag)
  | 0x02 => some (.answerHelm p tag (u8 ps 0))
  | 0x03 => some (.cancel p tag)
  | 0x04 => some (.releaseHelm p tag)
  | 0x05 => some (.takeHelm p tag (takeLine lv p))
  | 0x06 => some (.setYieldPolicy p tag (u8 ps 0))
  | 0x07 => some (.setOrder p tag (u16 ps 0) (u16 ps 2) (u8 ps 4))
  | 0x08 => some (.readHelm p tag)
  | 0x10 => some (.readAllocation p tag)
  | 0x11 => some (.writeParameters p tag (u8 ps 0) (u16 ps 1))
  | 0x12 => some (.readParameters p tag)
  | 0x18 => some (.readEngine p tag (u8 ps 0))
  | 0x19 => some (.writeEngine p tag (u8 ps 0) (u8 ps 1) (engineParamsAt ps 2))
  | 0x1A => some (.setStandby p tag (u8 ps 0))
  | 0x1B => some (.reinstate p tag (u8 ps 0))
  | 0x1C => some (.clearTrip p tag (u8 ps 0) lv.trip)
  | 0x20 => some (.readRudder p tag (u8 ps 0))
  | 0x21 => some (.writeRudder p tag (u8 ps 0) (u8 ps 1) (rudderParamsAt ps 2))
  | 0x22 => some (.clearRudderFault p tag (u8 ps 0))
  | 0x23 => some (.readSteering p tag)
  | 0x28 => some (.readCoupling p tag (u8 ps 0))
  | 0x29 => some (.writeCoupling p tag (u8 ps 0) (u8 ps 1) (couplingParamsAt ps 2))
  | 0x2A => some (.makeUp p tag (u8 ps 0))
  | 0x2B => some (.releaseCoupling p tag (u8 ps 0))
  | 0x2C => some (.resetCoupling p tag (u8 ps 0))
  | 0x2D => some (.setTension p tag (u8 ps 0) (u16 ps 1) (u16 ps 3))
  | 0x2E => some (.readPeak p tag (u8 ps 0))
  | 0x2F => some (.readCeilings p tag)
  | 0x30 => some (.readMeter p tag (u8 ps 0) (u8 ps 1))
  | 0x31 => some (.writeMeter p tag (u8 ps 0) (u8 ps 1) (meterParamsAt ps 2))
  | 0x32 => some (.setMeter p tag (u8 ps 0) (u16 ps 1) (u16 ps 3))
  | 0x38 => some (.readTank p tag (u8 ps 0))
  | 0x39 => some (.writeTank p tag (u8 ps 0) (u8 ps 1) (tankParamsAt ps 2))
  | 0x3A => some (.rebaseTank p tag (u8 ps 0) { presence := u8 ps 1, value := u32 ps 2 })
  | 0x3B => some (.setFeed p tag (u8 ps 0) (u8 ps 1))
  | 0x3C => some (.setTank p tag (u8 ps 0) (u8 ps 1) (u16 ps 2))
  | 0x40 => some (.startMovement p tag (u8 ps 0) (movementParamsAt ps 1))
  | 0x41 => some (.stopMovement p tag (u8 ps 0))
  | 0x42 => some (.retireMovement p tag)
  | 0x43 => some (.readMovementChannel p tag (u8 ps 0))
  | 0x44 => some (.readMovementRecord p tag (u8 ps 0))
  | 0x48 => some (.writeNode p tag (u8 ps 0) (u8 ps 1) (u8 ps 2) (nodeParamsAt ps 3))
  | 0x49 => some (.readNode p tag (u8 ps 0) (u8 ps 1) (u8 ps 2))
  | 0x4A => some (.readLine p tag (u8 ps 0) (u8 ps 1))
  | 0x4B => some (.restartLine p tag (u8 ps 0))
  | 0x50 => some (.readEvents p tag)
  | 0x51 => some (.clearEvents p tag (u24 ps 0))
  | 0x52 => some (.setEventMask p tag (u24 ps 0))
  | 0x53 => some (.readPortStatus p tag (u8 ps 0) (u8 ps 1))
  | 0x58 => some (.readPhase p tag)
  | 0x59 => some (.commitConfig p tag lv.trip)
  | 0x5A => some (.reconfigure p tag)
  | _ => none

/-- R172, item 4, R189: the request of a completed frame; none for an unknown code and for a parameter length other than
the code's. -/
def requestOf (p : Port) (f : RequestFrame) (lv : LineLevels) : Option Instr :=
  if paramCount f.code.toNat = some f.params.length then requestWith p f.tag f.code.toNat f.params lv else none

/-- R4: the helm requests. -/
def helmRequest : Instr → Bool
  | .claimHelm .. => true
  | .answerHelm .. => true
  | .cancel .. => true
  | .releaseHelm .. => true
  | .takeHelm .. => true
  | .setYieldPolicy .. => true
  | .setOrder .. => true
  | _ => false

/-- 10.5: the requests that need the helm, whose check of the holder follows that of the phase. -/
def holderRequest : Instr → Bool
  | .setStandby .. => true
  | .reinstate .. => true
  | .clearTrip .. => true
  | .clearRudderFault .. => true
  | .makeUp .. => true
  | .releaseCoupling .. => true
  | .resetCoupling .. => true
  | .setTension .. => true
  | .reconfigure .. => true
  | _ => false

/-- 10.5: the requests of port E alone. -/
def fuelRequest : Instr → Bool
  | .startMovement .. => true
  | .retireMovement .. => true
  | .rebaseTank .. => true
  | .setFeed .. => true
  | .setTank .. => true
  | .setMeter .. => true
  | _ => false

/-- 11.2: the requests of port E that are refused in CONFIGURING. -/
def fuelRunningRequest : Instr → Bool
  | .startMovement .. => true
  | .setFeed .. => true
  | .setTank .. => true
  | .setMeter .. => true
  | _ => false

/-- 11.2: the requests that are refused in RUNNING. -/
def configuringRequest : Instr → Bool
  | .writeEngine .. => true
  | .writeRudder .. => true
  | .writeCoupling .. => true
  | .writeMeter .. => true
  | .writeTank .. => true
  | .writeNode .. => true
  | .commitConfig .. => true
  | _ => false

/-- The answer to a read of an entry: DONE with its body, or BAD_INDEX. -/
def readAt (n : Nat) (index : Byte) (body : Fin n → List Byte) : Result × List Byte :=
  if h : index.toNat < n then (.DONE, body ⟨index.toNat, h⟩) else (.BAD_INDEX, [])

/-- The reads that change nothing, and what each is answered in a state: R2, R27, R46, R68, R77, R81, R100, R104, R121,
R138, R151, R157, R176, R178, R180, R183; those with a clear option, where it is off. -/
def readAnswer (s : State) : Instr → Option (Result × List Byte)
  | .readHelm .. => some (.DONE, helmBody s)
  | .readAllocation .. => some (.DONE, allocationBody s)
  | .readParameters .. => some (.DONE, paramsBody s)
  | .readEngine _ _ i => some (readAt 8 i fun i => s.engines[i].body s.now ++ s.totals[i].body)
  | .readRudder _ _ i => some (readAt 8 i fun i => s.rudders[i].body s.now)
  | .readSteering .. => some (.DONE, steeringBody s)
  | .readCoupling _ _ i => some (readAt 24 i fun i => s.couplings[i].body s.now)
  | .readCeilings .. => some (.DONE, ceilingsBody s)
  | .readMeter _ _ i clear => if clear = 0 then some (readAt 16 i fun i => s.meters[i].body) else none
  | .readTank _ _ i => some (readAt 8 i fun i => tankBody s i)
  | .readMovementChannel _ _ c => some (readAt 2 c fun c => s.channels[c].body s.now ++ be 2 s.nextMovement)
  | .readMovementRecord _ _ i =>
    match s.records[i.toNat]? with
    | some r => some (.DONE, recordBody s.records.length r)
    | none => some (.BAD_INDEX, [])
  | .readNode _ _ l i clear =>
    if clear = 0 then
      match lineOf l with
      | some l => some (readAt 32 i fun i => nodeBody (s.line l).nodes[i])
      | none => some (.BAD_INDEX, [])
    else none
  | .readLine _ _ l clear =>
    if clear = 0 then
      match lineOf l with
      | some l => some (.DONE, (s.line l).body)
      | none => some (.BAD_INDEX, [])
    else none
  | .readEvents p _ => some (.DONE, encEvents (s.port p).pending ++ encEvents (s.port p).mask)
  | .readPortStatus _ _ q clear =>
    if clear = 0 then
      match portOf q with
      | some q => some (.DONE, (s.port q).body)
      | none => some (.BAD_INDEX, [])
    else none
  | .readPhase .. => some (.DONE, phaseBody s)
  | _ => none

/-- The bytes of a body from `a` on, `n` of them. -/
abbrev slice (l : List Byte) (a n : Nat) : List Byte := (l.drop a).take n

/-- A body of that many bytes with those fields, each from its place on. -/
def LaidOut (body : List Byte) (size : Nat) (fields : List (Nat × List Byte)) : Prop :=
  body.length = size ∧ ∀ f ∈ fields, slice body f.1 f.2.length = f.2

/-! ## Configurations as the write requests carry them (R188, R189) -/

/-- An optional number as a parameter. -/
def optionalParam (n : Nat) : Option Nat → OptParam n
  | none => { presence := 0, value := 0 }
  | some v => { presence := 1, value := BitVec.ofNat n v }

/-- A flag as a parameter. -/
def flagParam (b : Bool) : Byte := if b then 1 else 0

/-- R45: the fields in the ranges of their rows. -/
abbrev EngineCfg.InRange (g : EngineCfg) : Prop :=
  1 ≤ g.weight ∧ g.weight ≤ 100 ∧ 300 ≤ g.idleRpm ∧ g.idleRpm ≤ 1200 ∧ 400 ≤ g.maxRpm ∧ g.maxRpm ≤ 2500
    ∧ 10 ≤ g.upRamp ∧ g.upRamp ≤ 500 ∧ 10 ≤ g.downRamp ∧ g.downRamp ≤ 1000 ∧ g.asternLimit ≤ 1000
    ∧ g.economyCap ≤ 1000 ∧ 1 ≤ g.ratedRate ∧ g.ratedRate ≤ 2000

/-- The bytes of WRITE_ENGINE for a configuration. -/
def EngineCfg.params (g : EngineCfg) : EngineParams where
  station := BitVec.ofNat 8 g.station.ctorIdx
  axis := BitVec.ofNat 8 g.axis.ctorIdx
  side := BitVec.ofNat 8 g.side.ctorIdx
  weight := BitVec.ofNat 8 g.weight
  idleRpm := BitVec.ofNat 16 g.idleRpm
  maxRpm := BitVec.ofNat 16 g.maxRpm
  upRamp := BitVec.ofNat 16 g.upRamp
  downRamp := BitVec.ofNat 16 g.downRamp
  asternLimit := BitVec.ofNat 16 g.asternLimit
  economyCap := BitVec.ofNat 16 g.economyCap
  ratedRate := BitVec.ofNat 16 g.ratedRate
  feedTank := BitVec.ofNat 8 g.feedTank.val
  meter := optionalParam 8 (g.meter.map Fin.val)

/-- R67. -/
abbrev RudderCfg.InRange (g : RudderCfg) : Prop := 100 ≤ g.maxAngle ∧ g.maxAngle ≤ 450 ∧ 10 ≤ g.slew ∧ g.slew ≤ 100

/-- The bytes of WRITE_RUDDER for a configuration. -/
def RudderCfg.params (g : RudderCfg) : RudderParams where
  station := BitVec.ofNat 8 g.station.ctorIdx
  kind := BitVec.ofNat 8 g.kind.ctorIdx
  maxAngle := BitVec.ofNat 16 g.maxAngle
  slew := BitVec.ofNat 8 g.slew

/-- R80. -/
abbrev CouplingCfg.InRange (g : CouplingCfg) : Prop :=
  g.slackLevel ≤ 2000 ∧ g.target ≤ 2000 ∧ g.band ≤ 1000 ∧ g.strainLevel ≤ 2000 ∧ g.recoveryLevel ≤ 2000
    ∧ g.renderLevel ≤ 2000

/-- The bytes of WRITE_COUPLING for a configuration. -/
def CouplingCfg.params (g : CouplingCfg) : CouplingParams where
  kind := BitVec.ofNat 8 g.kind.ctorIdx
  slackLevel := BitVec.ofNat 16 g.slackLevel
  target := BitVec.ofNat 16 g.target
  band := BitVec.ofNat 16 g.band
  strainLevel := BitVec.ofNat 16 g.strainLevel
  recoveryLevel := BitVec.ofNat 16 g.recoveryLevel
  renderLevel := BitVec.ofNat 16 g.renderLevel
  autoTend := flagParam g.autoTend

/-- R103. -/
abbrev MeterCfg.InRange (g : MeterCfg) : Prop :=
  1 ≤ g.weight1 ∧ g.weight1 ≤ 1000 ∧ 1 ≤ g.weight2 ∧ g.weight2 ≤ 1000 ∧ g.alpha ≤ 2000 ∧ 1 ≤ g.limit
    ∧ g.limit ≤ 65535

/-- The bytes of WRITE_METER for a configuration. -/
def MeterCfg.params (g : MeterCfg) : MeterParams where
  kind := BitVec.ofNat 8 g.kind.ctorIdx
  engine := optionalParam 8 (g.engine.map Fin.val)
  weight1 := BitVec.ofNat 16 g.weight1
  weight2 := BitVec.ofNat 16 g.weight2
  alpha := BitVec.ofNat 16 g.alpha
  limit := BitVec.ofNat 16 g.limit

/-- R120, R122. -/
abbrev TankCfg.InRange (g : TankCfg) : Prop :=
  100 ≤ g.capacity ∧ g.capacity ≤ 200000 ∧ g.high ≤ 200000 ∧ g.low ≤ 200000 ∧ g.reserve ≤ 200000
    ∧ g.empty ≤ 200000 ∧ g.hysteresis ≤ 20000 ∧ 1 ≤ g.limit ∧ g.limit ≤ 20000
    ∧ (g.source = .SOUNDING → g.fitted = true)

/-- The bytes of WRITE_TANK for a configuration, with the hysteresis given, or absent (R122). -/
def TankCfg.params (g : TankCfg) (hysteresis : Option Nat) : TankParams where
  station := BitVec.ofNat 8 g.station.ctorIdx
  capacity := BitVec.ofNat 24 g.capacity
  high := BitVec.ofNat 24 g.high
  low := BitVec.ofNat 24 g.low
  reserve := BitVec.ofNat 24 g.reserve
  empty := BitVec.ofNat 24 g.empty
  hysteresis := optionalParam 16 hysteresis
  fitted := flagParam g.fitted
  source := BitVec.ofNat 8 g.source.ctorIdx
  limit := BitVec.ofNat 16 g.limit

/-- The bytes of WRITE_NODE for a bound object and an address. -/
def nodeParams (b : Bound) (address : Nat) : NodeParams where
  kind := BitVec.ofNat 8 b.kind
  address := BitVec.ofNat 8 address
  bound := optionalParam 8 b.number

/-! ## The checks of a commit (R184) and of a reconfigure (R186) -/

/-- Check 1: a configured engine of axis AHEAD. -/
abbrev AheadEngine (s : State) (i : Fin 8) : Prop := s.engines[i].configured = true ∧ s.engines[i].cfg.axis = .AHEAD

/-- Check 2. -/
abbrev FeedWrong (s : State) (i : Fin 8) : Prop :=
  s.engines[i].configured = true ∧ (s.tanks[s.engines[i].cfg.feedTank].used = false
    ∨ s.tanks[s.engines[i].cfg.feedTank].cfg.station ≠ s.engines[i].cfg.station)

/-- Check 3. -/
abbrev SpeedWrong (s : State) (i : Fin 8) : Prop :=
  s.engines[i].configured = true ∧ s.engines[i].cfg.maxRpm < s.engines[i].cfg.idleRpm + 100

/-- Check 4, R83. -/
abbrev LevelsWrong (s : State) (i : Fin 24) : Prop :=
  s.couplings[i].used = true ∧ ¬ (s.couplings[i].cfg.slackLevel + s.couplings[i].cfg.band < s.couplings[i].cfg.target
    ∧ s.couplings[i].cfg.target + s.couplings[i].cfg.band < s.couplings[i].cfg.strainLevel
    ∧ s.couplings[i].cfg.strainLevel < s.couplings[i].cfg.renderLevel
    ∧ s.couplings[i].cfg.target ≤ s.couplings[i].cfg.recoveryLevel
    ∧ s.couplings[i].cfg.recoveryLevel < s.couplings[i].cfg.strainLevel)

/-- Check 5. -/
abbrev TankLevelsWrong (s : State) (i : Fin 8) : Prop :=
  s.tanks[i].used = true ∧ ¬ (s.tanks[i].cfg.empty < s.tanks[i].cfg.reserve ∧ s.tanks[i].cfg.reserve < s.tanks[i].cfg.low
    ∧ s.tanks[i].cfg.low < s.tanks[i].cfg.high ∧ s.tanks[i].cfg.high ≤ s.tanks[i].cfg.capacity)

/-- Check 6: a bound object that is configured. A pump node has none to configure. -/
def ObjectConfigured (s : State) : Bound → Prop
  | .engine i => s.engines[i].configured = true
  | .rudder i => s.rudders[i].configured = true
  | .winch i => s.couplings[i].used = true
  | .meter i => s.meters[i].used = true
  | .tank i => s.tanks[i].used = true ∧ s.tanks[i].cfg.fitted = true
  | .pump => True

/-- Check 6: exactly one node entry of the two lines is bound to an object. -/
def BoundOnce (s : State) (b : Bound) : Prop :=
  ∃ (l : Line) (i : Fin 32), ((s.line l).nodes[i]).map NodeEntry.bound = some b
    ∧ ∀ (k : Line) (j : Fin 32), ((s.line k).nodes[j]).map NodeEntry.bound = some b → k = l ∧ j = i

/-- R186, item 4. -/
abbrev AtRest (s : State) : Prop :=
  (∀ i : Fin 8, s.engines[i].configured = true → s.engines[i].gear = .NEUTRAL ∧ s.engines[i].dwell = none)
    ∧ ∀ c : Fin 2, s.channels[c].state = .IDLE

/-! ## Reset (R187) -/

/-- R45, R46, R112: an engine slot. -/
abbrev PorEngine (e : Engine) (t : EngineTotals) : Prop :=
  e = { configured := false
        cfg := { station := .LEAD, axis := .AHEAD, side := .CENTRE, weight := 1, idleRpm := 600, maxRpm := 1800
                 upRamp := 100, downRamp := 200, asternLimit := 700, economyCap := 500, ratedRate := 100
                 feedTank := 0, meter := none }
        node := none, standby := false, nodeAvailable := false, fault := none, derate := false, tracking := false
        feed := .FED, state := .ABSENT, eligible := false, aheadCap := 0, asternCap := 0, gear := .NEUTRAL, rpm := 600
        lastGear := none, dwell := none, confirm := none, confirmed := false, trackDeadline := none
        lastReport := none, reportAt := none }
    ∧ t = { metered := 0, estimated := 0, unaccounted := 0 }

/-- R67, R68: a rudder slot. -/
abbrev PorRudder (r : Rudder) : Prop :=
  r = { configured := false, cfg := { station := .LEAD, kind := .MAIN, maxAngle := 350, slew := 40 }, node := none
        nodeAvailable := false, jam := false, state := .ABSENT, target := 0, commanded := 0, jamDeadline := none
        lastAngle := none }

/-- R80, R81: a coupling. -/
abbrev PorCoupling (c : Coupling) : Prop :=
  c = { used := false
        cfg := { kind := .FACE, slackLevel := 20, target := 120, band := 15, strainLevel := 250, recoveryLevel := 180
                 renderLevel := 350, autoTend := false }
        node := none, state := .UNUSED, nodeAvailable := false, command := .BRAKE, lastTension := none
        lastDrum := none, reportAt := none, freshness := none, deadline := none, overloads := 0, peak := 0 }

/-- R103, R104: a meter. -/
abbrev PorMeter (m : Meter) : Prop :=
  m = { used := false
        cfg := { kind := .ENGINE, engine := none, weight1 := 1, weight2 := 1, alpha := 800, limit := 1000 }
        node := none
        ch1 := { baseline := none, residue := 0, tempInvalid := false, last := none }
        ch2 := { baseline := none, residue := 0, tempInvalid := false, last := none }
        nodeAvailable := false, heard := false, excess := 0, implausible := 0, stray := 0, estimating := false
        estResidue := 0, heldRack := 0, rackHold := 0 }

/-- R120, R121: a tank. -/
abbrev PorTank (t : Tank) : Prop :=
  t = { used := false
        cfg := { station := .LEAD, capacity := 10000, high := 9000, low := 2000, reserve := 1000, empty := 200
                 hysteresis := 100, fitted := false, source := .BOOK, limit := 100 }
        node := none
        account := { book := 0, opening := 0, received := 0, transferIn := 0, transferOut := 0, consumed := 0
                     saturated := false }
        sounding := none, soundingValid := false, state := none, discrepancy := false, discDeadline := none }

/-- R136: a movement channel. -/
abbrev PorChannel (c : Channel) : Prop :=
  c = { state := .IDLE, kind := none, source := none, destination := none, meter := none, pump := none, mode := none
        target := none, moved := 0, overflow := false, wraps := 0, runOn := 0, stopReason := none, stopSecond := none
        settling := none, zeroReports := 0, number := none, startSecond := none, lastPump := none }

/-- R156, R157: a line with an empty list, idle (the fields that are no field of the line record: log 8). -/
abbrev PorLine (c : LineCtl) : Prop :=
  c = { nodes := Vector.replicate 32 none, activity := .IDLE, round := 0, position := none, attempt := none, strays := 0
        roundsCompleted := 0, lineDown := false, cursor := none, link := .idle, payload := [], sent := []
        receiver := .searching, lastChar := none, lateTail := none, handovers := [] }

/-- Every table at its POR contents. -/
abbrev PorTables (s : State) : Prop :=
  (∀ i : Fin 8, PorEngine s.engines[i] s.totals[i] ∧ PorRudder s.rudders[i] ∧ PorTank s.tanks[i])
    ∧ (∀ i : Fin 24, PorCoupling s.couplings[i]) ∧ (∀ i : Fin 16, PorMeter s.meters[i])
    ∧ (∀ i : Fin 2, PorChannel s.channels[i]) ∧ s.records = [] ∧ s.nextMovement = 1 ∧ (∀ l, PorLine (s.line l))

/-- Every record at its POR values. -/
abbrev PorRecords (s : State) : Prop :=
  s.helm = { state := .UNCLAIMED, holder := none, requester := none, queryDeadline := none, silenceDeadline := none,
             lastHolder := none, takeOvers := 0, policyL := .YIELD_ON_ANSWER, policyH := .YIELD_ON_ANSWER,
             decayTimer := none }
    ∧ s.order = { thrust := 0, turn := 0, mode := .STOP }
    ∧ s.params = { diffGain := 250, fallbackGain := 150, bowGain := 800, engageThreshold := 30,
                   releaseThreshold := 100, strainFactor := 700, gearDwell := 3000, trackingBand := 150 }
    ∧ s.alloc = { passNumber := 0, tLim := 0, uLim := 0, ceilC := 1000, ceilK := 1000, mode := .STOP, wCfg := 0
                  wAvail := 0, deficit := 0, shares := Vector.replicate 8 0, gains := { lead := 0, helper := 0, bow := 0 }
                  lateral := 0, rounds := 0 }
    ∧ s.passTimer = none ∧ s.engineResult = none ∧ s.rudderResult = none
    ∧ s.tripLatch = { lead := false, helper := false, bow := false }
    ∧ s.steering = { backing := { lead := false, helper := false, bow := false }
                     gains := { lead := 0, helper := 0, bow := 0 }, uLim := 0, mode := .STOP, passNumber := 0 }
    ∧ s.ceilings = { c := 1000, k := 1000 } ∧ s.estimationTimer = none
    ∧ s.phase = { phase := .CONFIGURING, seconds := 0, lastCommit := none, secondsTimer := none }

/-- The port as full reset leaves it (R175, R178, R179), at the rate of its strap (R169). -/
abbrev PorPort (strap : Bool) (r : PortRec) : Prop :=
  r.rate = (if strap then .r460800 else .r115200) ∧ r.badCheck = 0 ∧ r.truncated = 0 ∧ r.oversize = 0 ∧ r.busy = 0
    ∧ r.slot = none ∧ r.replies = [] ∧ r.pending = EventKind.single .RESTARTED ∧ r.mask = 0x3FFFFF
    ∧ r.receiver = .hunting ∧ r.incoming = none ∧ r.txDone = none

/-- The part as full reset ends, with the straps read. -/
abbrev AfterReset (straps : Straps) (s : State) : Prop :=
  s.inReset = false ∧ PorTables s ∧ PorRecords s ∧ PorPort straps.rateL s.ports.l ∧ PorPort straps.rateH s.ports.h
    ∧ PorPort straps.rateE s.ports.e

/-! ## Laws -/

/-- R2: the holder is present in HELD and QUERY alone, the requester (the bridge that is not the holder) in QUERY alone; the
deadlines and the decay timer go with the states; R4, R23: in CONFIGURING the helm is UNCLAIMED. -/
def HelmLaw (s : State) : Prop :=
  (s.helm.holder.isSome ↔ s.helm.state = .HELD ∨ s.helm.state = .QUERY)
    ∧ (s.helm.requester.isSome ↔ s.helm.state = .QUERY)
    ∧ (s.helm.requester.isSome → s.helm.requester ≠ s.helm.holder)
    ∧ (s.helm.queryDeadline.isSome ↔ s.helm.state = .QUERY)
    ∧ (s.helm.silenceDeadline.isSome ↔ s.helm.holder.isSome)
    ∧ (s.helm.decayTimer.isSome ↔ s.helm.state = .HOLDING)
    ∧ (s.running = false → s.helm.state = .UNCLAIMED)

/-- R20: each demand lies within −1000 to +1000; R6: in UNCLAIMED both are 0. -/
def OrderLaw (s : State) : Prop :=
  -1000 ≤ s.order.thrust ∧ s.order.thrust ≤ 1000 ∧ -1000 ≤ s.order.turn ∧ s.order.turn ≤ 1000
    ∧ (s.helm.state = .UNCLAIMED → s.order.thrust = 0 ∧ s.order.turn = 0)

/-- R9, R172, R173: a port holds a request in flight exactly while its bridge is the pending requester. -/
def SlotLaw (s : State) : Prop :=
  (∀ b : Bridge, (s.port (portOfBridge b)).slot.isSome ↔ s.helm.requester = some b) ∧ (s.port .E).slot = none

/-- R172: an output queue does not reach 8 replies; while a claim is in flight there is room for its reply. A reply is being
sent exactly while one is queued (R171). -/
def QueueLaw (s : State) : Prop :=
  ∀ p : Port, (s.port p).replies.length ≤ 7 ∧ ((s.port p).slot.isSome → (s.port p).replies.length ≤ 6)
    ∧ ((s.port p).txDone.isSome ↔ (s.port p).replies ≠ [])

/-- R48, R52, R53: state, eligibility and caps of every slot are those its conditions give, and an engine that is not
eligible is in NEUTRAL. -/
def EngineLaw (s : State) : Prop :=
  ∀ i : Fin 8, s.engines[i].rederive (s.tripLatch.get s.engines[i].cfg.station) = s.engines[i]
    ∧ (s.engines[i].eligible = false → s.engines[i].gear = .NEUTRAL)

/-- R70, R71, R73: the state of every rudder is that its conditions give, and a jam deadline runs while it is ONLINE
alone. -/
def RudderLaw (s : State) : Prop :=
  ∀ i : Fin 8, s.rudders[i].state = s.rudders[i].derive
    ∧ (s.rudders[i].jamDeadline.isSome → s.rudders[i].state = .ONLINE)

/-- The state a state deadline belongs to (R85). -/
def deadlineState : StateDeadlineKind → CouplingState
  | .heave => .MAKING_UP
  | .release => .RELEASING
  | .slackDwell => .MADE_UP

/-- R85: the winch command of every coupling is that of its state, and a state deadline stands in its own state alone;
R80, R81: UNUSED goes with the entry; R102: in CONFIGURING no coupling is in a state that must be watched. -/
def CouplingLaw (s : State) : Prop :=
  ∀ i : Fin 24, s.couplings[i].command = commandOf s.couplings[i].state
    ∧ (∀ d, s.couplings[i].deadline = some d → s.couplings[i].state = deadlineState d.kind)
    ∧ (s.couplings[i].used = false ↔ s.couplings[i].state = .UNUSED)
    ∧ (s.running = false → s.couplings[i].state.watched = false)

/-- R99: while any FACE or FORE_AFT coupling is RELEASING or RELEASED, the published thrust ceiling is at most the release
threshold. -/
def CeilingLaw (s : State) : Prop :=
  ∀ i : Fin 24, s.couplings[i].used = true → s.couplings[i].cfg.kind ≠ .LATERAL →
    (s.couplings[i].state = .RELEASING ∨ s.couplings[i].state = .RELEASED) → s.ceilings.c ≤ s.params.releaseThreshold

/-- R123: for every tank whose saturated flag is clear, book content = opening + received + transferred in − transferred
out − consumed. -/
def AccountLaw (s : State) : Prop :=
  ∀ i : Fin 8, s.tanks[i].account.saturated = false →
    s.tanks[i].account.book = s.tanks[i].account.opening + s.tanks[i].account.received + s.tanks[i].account.transferIn
      - s.tanks[i].account.transferOut - s.tanks[i].account.consumed

/-- R151: records and open channels together never exceed 16; R137: no tank, meter or pump node is claimed by both
channels; R153: in CONFIGURING both channels are IDLE. -/
def MovementLaw (s : State) : Prop :=
  s.records.length + s.openChannels ≤ 16
    ∧ (∀ t, ¬ (s.channels[0].claimsTank t = true ∧ s.channels[1].claimsTank t = true))
    ∧ (∀ m, ¬ (s.channels[0].claimsMeter m = true ∧ s.channels[1].claimsMeter m = true))
    ∧ (∀ r, ¬ (s.channels[0].claimsPump r = true ∧ s.channels[1].claimsPump r = true))
    ∧ (s.running = false → s.channels[0].isOpen = false ∧ s.channels[1].isOpen = false)

/-- R146: no channel is RUNNING while the source of its TRANSFER is in RESERVE or EMPTY or its destination is HIGH. -/
def FlowLaw (s : State) : Prop :=
  ∀ c : Fin 2, s.channels[c].state = .RUNNING →
    (∀ t, s.channels[c].kind = some .TRANSFER → s.channels[c].source = some t →
      s.tanks[t].state ≠ some .RESERVE ∧ s.tanks[t].state ≠ some .EMPTY)
    ∧ ∀ t, s.channels[c].destination = some t → s.tanks[t].state ≠ some .HIGH

/-- R164: the failures that go with a node's state. -/
def failuresFit (e : NodeEntry) : Bool :=
  match e.state with
  | .UNHEARD => decide (e.failures ≤ 2)
  | .ONLINE => decide (e.failures = 0)
  | .SUSPECT => decide (1 ≤ e.failures) && decide (e.failures ≤ 2)
  | .OFFLINE => decide (e.failures = 3)

/-- R164: every entry's failures fit its state. -/
def NodeLaw (s : State) : Prop :=
  ∀ (l : Line) (i : Fin 32) (e : NodeEntry), (s.line l).nodes[i] = some e → failuresFit e = true

/-! ## When the events of the part fall due -/

/-- R155: a character is in progress on a line. -/
abbrev LineCtl.inCharacter (c : LineCtl) : Prop :=
  ∃ since x risen, c.receiver = .sampling since x risen ∧ majority x.start = false

/-- R162: a transmission has been due since `since`, and the line is quiet from `quiet` on. -/
abbrev LineCtl.dueQuiet (c : LineCtl) (since quiet : Nat) : Prop :=
  c.link = .due since ∧ quiet = match c.lastChar with
    | none => since
    | some t => max since (t + ms 1)

/-- R160, R161: a reply, or a late reply, of that many characters is being received in the window of an attempt. -/
abbrev LineCtl.inReply (c : LineCtl) (e : NodeEntry) (n : Nat) : Prop :=
  ∃ t o i, c.position = some i ∧ c.nodes[i] = some e
    ∧ ((∃ chars, c.link = .window t o (.reply chars) ∧ chars.length = n) ∨ c.link = .window t o (.late n))

/-- The deadlines and timers of the part: the command of each, and the moment it expires where it is present. -/
inductive ExpiresAt (s : State) : Instr → Nat → Prop
  | query {d} : s.helm.queryDeadline = some d → ExpiresAt s .queryDeadlineExpiry d
  | silence {d} : s.helm.silenceDeadline = some d → ExpiresAt s .silenceDeadlineExpiry d
  | decay {d} : s.helm.decayTimer = some d → ExpiresAt s .decayTimerExpiry d
  | pass {d} : s.passTimer = some d → ExpiresAt s .passTimerExpiry d
  | dwell {i : Fin 8} {d} : s.engines[i].dwell = some d → ExpiresAt s (.dwellDeadlineExpiry i) d
  | confirm {i : Fin 8} {d} : s.engines[i].confirm = some d → ExpiresAt s (.gearConfirmExpiry i) d
  | track {i : Fin 8} {d} : s.engines[i].trackDeadline = some d → ExpiresAt s (.trackingDeadlineExpiry i) d
  | jam {i : Fin 8} {d} : s.rudders[i].jamDeadline = some d → ExpiresAt s (.jamDeadlineExpiry i) d
  | freshness {i : Fin 24} {d} : s.couplings[i].freshness = some d → ExpiresAt s (.freshnessDeadlineExpiry i) d
  | heave {i : Fin 24} {d} : s.couplings[i].deadline = some ⟨.heave, d⟩ → ExpiresAt s (.heaveDeadlineExpiry i) d
  | release {i : Fin 24} {d} : s.couplings[i].deadline = some ⟨.release, d⟩ → ExpiresAt s (.releaseDeadlineExpiry i) d
  | slackDwell {i : Fin 24} {d} : s.couplings[i].deadline = some ⟨.slackDwell, d⟩ → ExpiresAt s (.slackDwellExpiry i) d
  | estimation {d} : s.estimationTimer = some d → ExpiresAt s .estimationTimerExpiry d
  | discrepancy {i : Fin 8} {d} : s.tanks[i].discDeadline = some d → ExpiresAt s (.discrepancyDeadlineExpiry i) d
  | settling {i : Fin 2} {d} : s.channels[i].settling = some d → ExpiresAt s (.settlingDeadlineExpiry i) d
  | seconds {d} : s.phase.secondsTimer = some d → ExpiresAt s .secondsTimerExpiry d
  /-- R162: the line is quiet for 1 ms within 10 ms. -/
  | quiet {l since d} : (s.line l).dueQuiet since d → ¬(s.line l).inCharacter → d ≤ since + ms 10 →
      ExpiresAt s (.pollTransmit l) d
  /-- R162: it is not. -/
  | unquiet {l since d} : (s.line l).dueQuiet since d → (s.line l).inCharacter ∨ since + ms 10 < d →
      ExpiresAt s (.quietWaitTimeout l) (since + ms 10)
  | sent {l start d} : (s.line l).link = .sending start d → ExpiresAt s (.pollTransmissionEnd l) d
  | cut {l start d since} : (s.line l).link = .stopping start d since → ExpiresAt s (.pollTransmissionEnd l) d
  | window {l d rx} : (s.line l).link = .window d true rx → ExpiresAt s (.replyWindowClose l) d
  /-- R161: one character more than the length of the kind. -/
  | overlong {l e n} : (s.line l).inReply e n → e.bound.replyLength < n →
      ExpiresAt s (.replyEnd l) ((s.line l).lastChar.getD 0)
  /-- R161: more than 1 ms without a character. -/
  | gap {l e n} : (s.line l).inReply e n → n ≤ e.bound.replyLength → ¬(s.line l).inCharacter →
      ExpiresAt s (.replyEnd l) ((s.line l).lastChar.getD 0 + ms 1 + 1)
  /-- The same gap after the rest of a late reply whose window has closed (log 23). -/
  | tailGap {l} : (∀ e n, ¬(s.line l).inReply e n) → (s.line l).lateTail ≠ none → ¬(s.line l).inCharacter →
      ExpiresAt s (.replyEnd l) ((s.line l).lastChar.getD 0 + ms 1 + 1)
  /-- R154, R155: the end of a stop bit, or sample 7 of the start bit of a glitch. -/
  | character {l since x risen} : (s.line l).receiver = .sampling since x risen →
      ExpiresAt s (.fieldCharacterReceived l .ends) (since + if majority x.start = true then 18 else 11 * 40)
  /-- R170, item 4. -/
  | frameGap {p} : (s.port p).receiver ≠ .hunting →
      (∀ x, (s.port p).incoming = some x → majority x.samples.start = true) →
      ExpiresAt s (.frameGapTimeout p) ((s.port p).lastByte + ms 2 + 1)
  | reply {p d} : (s.port p).txDone = some d → ExpiresAt s (.replySent p) d
  /-- R169: the end of a stop bit, or the decision on the start bit of a glitch (log 38). -/
  | byte {p x} : (s.port p).incoming = some x → ExpiresAt s (.portByteReceived p .ends x.levels)
      (x.since + if majority x.samples.start = true then (s.port p).rate.startDecided else (s.port p).rate.byteTime)

/-- What waits to be taken: the shares and the demands of a pass (R43), and the oldest hand-over of a line (R165; log 9). -/
def WaitsToBeTaken (s : State) (c : Instr) : Prop :=
  (c = .passResultTakenEngines ∧ s.engineResult ≠ none) ∨ (c = .passResultTakenRudders ∧ s.rudderResult ≠ none)
    ∨ ∃ l, (s.line l).handovers.head? = some c

end Sys2Proof.Machine
end

