-- ==== Sys2Proof/Certificates/Slice0/Obligations.lean ====
section
/-! DEFINITION. The statements about the part, for the provers. A request statement gives the state after the request whole:
the reply that its port composes, and every field of the state that changes. -/

open Sys2Proof Sys2Proof.Machine

/-! ## The machine -/

/-- 00, "Taken": a step takes the command at the front of the queue and runs it with the rest of the queue. -/
def Obligations.StepTakesFrontCommand : Prop :=
  ∀ (c : Instr) (rest : List Instr) (s : State), s.pending = c :: rest → step s = exec c { s with pending := rest }

/-- 00: the part answers every request and acts on every event: each command answers a next state, which leaves the
waiting commands alone, and the clock does not go back. The model's choice (log 2): on an empty queue one of the events
that are due enters the queue, and where none is due a unit of time passes; nothing else changes but the count of free
choices. Due are: each deadline and timer that is present and has been reached, and is the earliest of those; a pass
result that has not been taken (R43); and the oldest hand-over of each line (R165). That these wait in State is log 9,
that nothing orders what is due at one moment log 12, and the moments of the lines and links rest on logs 23, 24, 38 and
42. -/
def Obligations.EveryStepGoesOn : Prop :=
  (∀ s : State, s.pending = [] → ∃ t, step s = .next t ∧
      ((s.due = [] ∧ t = { s with now := s.now + 1 })
        ∨ ∃ c ∈ s.due, ∃ n, t = { s with pending := [c], choices := n } ∧ s.choices ≤ n))
  ∧ (∀ (c : Instr) (s : State), ∃ t, exec c s = .next t ∧ t.pending = s.pending ∧ s.now ≤ t.now)
  ∧ (∀ (s : State) (c : Instr), c ∈ s.due ↔
      (∃ d, ExpiresAt s c d ∧ d ≤ s.now ∧ ∀ c' d', ExpiresAt s c' d' → d ≤ d') ∨ WaitsToBeTaken s c)

/-- R187, R168, R169, R175, R177 to R180: full reset takes hold at once; while it lasts nothing is taken, the pending
sets are empty, the attention lines deasserted and the drivers disabled. It ends once, with every record and table at
its POR values, field by field, the straps read, RESTARTED alone pending and every attention line asserted. The machine
right after reset is such a state. -/
def Obligations.FullReset : Prop :=
  ((∀ s : State, ∃ t, exec .fullReset s = .next t ∧ t.inReset = true ∧ PorTables t ∧ PorRecords t
      ∧ t.now = s.now ∧ t.pending = s.pending
      ∧ (∀ p, (t.port p).pending = 0 ∧ t.attention p = false ∧ (t.port p).slot = none ∧ (t.port p).replies = []
          ∧ (t.port p).receiver = .hunting ∧ (t.port p).txDone = none)
      ∧ ∀ l, (t.line l).driverEnabled = false)
    ∧ ∀ (c : Instr) (s : State), s.inReset = true → c ≠ .fullReset → (∀ straps, c ≠ .resetEnd straps) → exec c s = .next s)
  ∧ ((∀ (straps : Straps) (s : State), s.inReset = true → ∃ t, exec (.resetEnd straps) s = .next t
        ∧ AfterReset straps t ∧ t.now = s.now ∧ t.pending = s.pending ∧ ∀ p, t.attention p = true)
      ∧ (∀ (straps : Straps) (s : State), s.inReset = false → exec (.resetEnd straps) s = .next s)
      ∧ AfterReset State.reset.straps State.reset ∧ State.reset.pending = [])

/-! ## Master ports -/

/-- R175, R177: a post marks its kind at the ports named and changes nothing else; the attention line is asserted exactly
while the pending set and the mask share a kind; the pending count is the number of kinds they share. -/
def Obligations.PostsAndAttention : Prop :=
  (∀ (k : EventKind) (s : State) (p : Port) (n : Nat),
    ((s.post k).port p).pending.getLsbD n = ((s.port p).pending.getLsbD n || decide (n = k.ctorIdx))
    ∧ (s.post k).port p = { s.port p with pending := ((s.post k).port p).pending }
    ∧ (s.postTo p k).port p = (s.post k).port p ∧ ∀ q, q ≠ p → (s.postTo p k).port q = s.port q)
  ∧ (∀ (k : EventKind) (s : State) (p : Port),
    s.post k = { s with ports := (s.post k).ports } ∧ s.postTo p k = { s with ports := (s.postTo p k).ports })
  ∧ (∀ (s : State) (p : Port), s.attention p = true ↔
    s.inReset = false ∧ ∃ n, (s.port p).pending.getLsbD n = true ∧ (s.port p).mask.getLsbD n = true)
  ∧ ∀ r : PortRec, r.pendingCount =
    ((List.range 22).filter fun n => r.pending.getLsbD n && r.mask.getLsbD n).length

/-- R171: a reply composed joins the end of its port's queue with the tag, the result, the pending count as it stands and
the body; an idle transmitter starts on it at once; nothing else changes. Its frame is laid out as R171 gives. R169: its
bytes go out back to back, each a start bit low, 8 data bits with the least significant first and a stop bit high, and an
idle output is high; the level is computed and not stored (log 30). -/
def Obligations.ReplyComposed : Prop :=
  (∀ (p : Port) (tag : Byte) (r : Result) (body : List Byte) (s : State),
    s.reply p tag r body = { s with ports := s.ports.set p { s.port p with
      replies := (s.port p).replies
        ++ [{ tag := tag, result := r, pending := (s.port p).pendingCount, body := body }]
      txDone := if (s.port p).replies = [] then some (s.now + (s.port p).rate.byteTime * (body.length + 7))
        else (s.port p).txDone } })
  ∧ (∀ r : Reply, ∃ hi lo : Byte, r.bytes =
    [0x5A, BitVec.ofNat 8 (r.body.length + 3), r.tag, BitVec.ofNat 8 r.result.ctorIdx, BitVec.ofNat 8 r.pending]
      ++ r.body ++ [hi, lo]
    ∧ hi ++ lo = crc16 (BitVec.ofNat 8 (r.body.length + 3) :: r.tag :: BitVec.ofNat 8 r.result.ctorIdx
        :: BitVec.ofNat 8 r.pending :: r.body))
  ∧ (∀ b : Byte, ∃ b0 b1 b2 b3 b4 b5 b6 b7 : Bool, byteBits b = [false, b0, b1, b2, b3, b4, b5, b6, b7, true]
      ∧ [b0, b1, b2, b3, b4, b5, b6, b7] = (List.range 8).map b.getLsbD)
  ∧ ∀ (r : PortRec) (now : Nat), ((r.txDone = none ∨ r.replies = []) → r.txLevel now = true)
    ∧ ∀ (d bit start n k : Nat) (x : Reply) (rest : List Reply) (b : Byte), r.txDone = some d → r.replies = x :: rest →
      bit = (if r.rate = .r115200 then 20 else 5) → start = d - 10 * bit * (x.body.length + 7) → x.bytes[n]? = some b →
      k < 10 → start + (n * 10 + k) * bit ≤ now → now < start + (n * 10 + k + 1) * bit →
      r.txLevel now = (byteBits b).getD k true

/-- R17, R170 (item 6), R172, R173, R189: what a completed frame is answered before its request is looked at (a wrong
CRC discards it; a valid frame gives the helm unit notice, is discarded with more than 5 replies queued, answered BUSY
behind a claim in flight, before the reply to that claim (log 44), and BAD_REQUEST for an unknown code or a wrong length); else it does what the request does
that its code and its parameters give. The same checks stand before a request taken as a command of its own (log 4). -/
def Obligations.FramesAtThePort : Prop :=
  ((∀ (p : Port) (s : State), (∀ b, bridgeOf p = some b → s.helm.holder ≠ some b) → holderNotice p s = s)
    ∧ (∀ (p : Port) (b : Bridge) (s : State), bridgeOf p = some b → s.helm.holder = some b → holderNotice p s = s.heard)
    ∧ ∀ (p : Port) (f : RequestFrame) (lv : LineLevels) (s : State), s.inReset = false → f.params.length ≤ 62 →
      (crc16 (coveredBytes f) ≠ f.crc → exec (.requestFrameReceived p f lv) s = .next
        (s.setPort p { s.port p with badCheck := min 65535 ((s.port p).badCheck + 1) }))
      ∧ (crc16 (coveredBytes f) = f.crc → 5 < (s.port p).replies.length →
        exec (.requestFrameReceived p f lv) s = .next
          (holderNotice p (s.setPort p { s.port p with busy := min 65535 ((s.port p).busy + 1) })))
      ∧ (crc16 (coveredBytes f) = f.crc → (s.port p).replies.length ≤ 5 → (s.port p).slot ≠ none → f.code ≠ 0x03 →
        exec (.requestFrameReceived p f lv) s = .next
          (((holderNotice p s).setPort p { s.port p with busy := min 65535 ((s.port p).busy + 1) }).reply
            p f.tag .BUSY []))
      ∧ (crc16 (coveredBytes f) = f.crc → (s.port p).replies.length ≤ 5 → ((s.port p).slot = none ∨ f.code = 0x03) →
        requestOf p f lv = none →
        exec (.requestFrameReceived p f lv) s = .next ((holderNotice p s).reply p f.tag .BAD_REQUEST [])))
  ∧ (∀ (p : Port) (f : RequestFrame) (lv : LineLevels) (c : Instr) (s : State),
        f.params.length ≤ 62 → crc16 (coveredBytes f) = f.crc → requestOf p f lv = some c →
        exec (.requestFrameReceived p f lv) s = exec c s)
  ∧ (∀ (c : Instr) (p : Port) (tag : Byte) (s : State), requestFrom c = some (p, tag) → s.inReset = false →
        (5 < (s.port p).replies.length → exec c s = .next
          (holderNotice p (s.setPort p { s.port p with busy := min 65535 ((s.port p).busy + 1) })))
        ∧ ((s.port p).replies.length ≤ 5 → (s.port p).slot ≠ none → c ≠ .cancel p tag → exec c s = .next
          (((holderNotice p s).setPort p { s.port p with busy := min 65535 ((s.port p).busy + 1) }).reply p tag .BUSY [])))

/-- R169, R170, R171: how bytes make a frame. The link falls at a receiver that looks for an edge: a gap of more than 2
ms before it discards the frame in progress, and a byte comes in. Each of its bits is the majority of three samples, the
data bits with the least significant first, and a stop bit decided low is a framing error. At its end (log 24) the byte
is hunted, is the length, is a byte of the frame, or completes it; a framing error discards the frame; a glitch is no
byte (log 38). A frame in progress is discarded once more than 2 ms have passed since its last byte with none coming in
(log 5); a reply leaves its queue when its last CRC byte has been sent, and the next follows directly. An expiry moves
the clock to its moment (log 3). -/
def Obligations.BytesMakeFrames : Prop :=
  ((∀ (p : Port) (x : ByteSamples) (lv : LineLevels) (s : State), s.inReset = false → (s.port p).incoming = none →
        (((s.port p).receiver ≠ .hunting ∧ (s.port p).lastByte + ms 2 < s.now) →
          exec (.portByteReceived p (.edge x) lv) s = .next (s.setPort p { s.port p with
            truncated := min 65535 ((s.port p).truncated + 1), receiver := .hunting
            incoming := some { since := s.now, samples := x, levels := lv } }))
        ∧ (¬((s.port p).receiver ≠ .hunting ∧ (s.port p).lastByte + ms 2 < s.now) →
          exec (.portByteReceived p (.edge x) lv) s = .next (s.setPort p { s.port p with
            incoming := some { since := s.now, samples := x, levels := lv } }))
        ∧ exec (.portByteReceived p .ends lv) s = .next s)
    ∧ (∀ (p : Port) (x : ByteSamples) (lv : LineLevels) (y : Incoming) (last free : Nat) (s : State), s.inReset = false →
        (s.port p).incoming = some y →
        last = (if majority y.samples.start = true then (s.port p).rate.startDecided else (s.port p).rate.byteTime) →
        free = (if majority y.samples.start = true then (s.port p).rate.startDecided else (s.port p).rate.stopDecided) →
        (s.now < y.since + free → exec (.portByteReceived p (.edge x) lv) s = .next s)
        ∧ (∀ t : State, t = byteEnds p y.levels s → y.since + free ≤ s.now → t.inReset = false → (t.port p).incoming = none →
          exec (.portByteReceived p (.edge x) lv) s = exec (.portByteReceived p (.edge x) lv) t)
        ∧ exec (.portByteReceived p .ends lv) s = .next (byteEnds p lv { s with now := max s.now (y.since + last) }))
    ∧ (∀ r : Rate, (r.byteTime, r.startDecided, r.stopDecided) =
      if r = .r115200 then (10 * 20, 20 / 2, 9 * 20 + 20 / 2) else (10 * 5, (5 + 1) / 2, 9 * 5 + (5 + 1) / 2))
    ∧ ∀ x : ByteSamples, (∀ i : Fin 8, ((receiveByte x).1.getLsbD i.val = true ↔
        2 ≤ [x.data[i].s1, x.data[i].s2, x.data[i].s3].count true))
      ∧ ((receiveByte x).2 = false ↔ 2 ≤ [x.stop.s1, x.stop.s2, x.stop.s3].count true)
      ∧ (majority x.start = true ↔ 2 ≤ [x.start.s1, x.start.s2, x.start.s3].count true))
  ∧ (∀ (p : Port) (y : Incoming) (lv : LineLevels) (b : Byte) (framing : Bool) (s : State) (r : PortRec), s.inReset = false →
      (s.port p).incoming = some y →
      r = { s.port p with incoming := none, lastByte := y.since + (s.port p).rate.byteTime } →
      (majority y.samples.start = true → byteEnds p lv s = s.setPort p { s.port p with incoming := none })
      ∧ (majority y.samples.start = false → receiveByte y.samples = (b, framing) →
        (r.receiver = .hunting → byteEnds p lv s = s.setPort p { r with
          receiver := if b = 0xA5 ∧ framing = false then .started else .hunting })
        ∧ (r.receiver ≠ .hunting → framing = true → byteEnds p lv s = s.setPort p { r with
          badCheck := min 65535 (r.badCheck + 1), receiver := .hunting })
        ∧ (r.receiver = .started → framing = false → byteEnds p lv s = s.setPort p
          (if 2 ≤ b.toNat ∧ b.toNat ≤ 64 then { r with receiver := .body b.toNat [] }
           else { r with oversize := min 65535 (r.oversize + 1), receiver := .hunting }))
        ∧ ∀ (n : Nat) (bytes : List Byte), r.receiver = .body n bytes → framing = false →
          (bytes.length + 1 ≠ n + 2 → byteEnds p lv s = s.setPort p { r with receiver := .body n (bytes ++ [b]) })
          ∧ (bytes.length + 1 = n + 2 → exec (.requestFrameReceived p
                { tag := u8 (bytes ++ [b]) 0, code := u8 (bytes ++ [b]) 1,
                  params := ((bytes ++ [b]).take n).drop 2, crc := u16 (bytes ++ [b]) n } lv)
              (s.setPort p { r with receiver := .hunting }) = .next (byteEnds p lv s))))
  ∧ ((∀ (p : Port) (s : State), s.inReset = false → (s.port p).receiver ≠ .hunting →
        ((∀ y, (s.port p).incoming = some y → majority y.samples.start = true) →
          exec (.frameGapTimeout p) s = .next { s with
            now := max s.now ((s.port p).lastByte + ms 2 + 1)
            ports := s.ports.set p { s.port p with
              truncated := min 65535 ((s.port p).truncated + 1), receiver := .hunting } })
        ∧ ∀ y, (s.port p).incoming = some y → majority y.samples.start = false →
          exec (.frameGapTimeout p) s = .next s)
      ∧ (∀ (p : Port) (s : State), (s.port p).receiver = .hunting → exec (.frameGapTimeout p) s = .next s)
      ∧ (∀ (p : Port) (s : State) (d : Nat) (r : Reply), s.inReset = false → (s.port p).txDone = some d →
        ((s.port p).replies = [r] → exec (.replySent p) s = .next { s with
          now := max s.now d, ports := s.ports.set p { s.port p with replies := [], txDone := none } })
        ∧ ∀ (x : Reply) (rest : List Reply), (s.port p).replies = r :: x :: rest → exec (.replySent p) s = .next { s with
          now := max s.now d
          ports := s.ports.set p { s.port p with
            replies := x :: rest, txDone := some (d + (s.port p).rate.byteTime * (x.body.length + 7)) } }))

/-- R4, R89, R106, R131, R132, R133, R139, R152, R174, R186; 10.5, 11.2: which port and which phase a request needs, and
that the holder-only requests need the helm; a refusal changes no record. -/
def Obligations.PermissionPhaseAndHolder : Prop :=
  ∀ (c : Instr) (p : Port) (tag : Byte) (s : State), requestFrom c = some (p, tag) → Ready p s →
    ((helmRequest c = true ∨ holderRequest c = true) →
      (p = .E → exec c s = .next (s.reply p tag .NOT_PERMITTED []))
      ∧ (p ≠ .E → s.running = false → exec c s = .next ((holderNotice p s).reply p tag .BAD_PHASE [])))
    ∧ (holderRequest c = true → p ≠ .E → s.running = true → (∀ b, bridgeOf p = some b → s.helm.holder ≠ some b) →
      exec c s = .next (s.reply p tag .NOT_HOLDER []))
    ∧ (fuelRequest c = true → p ≠ .E → exec c s = .next ((holderNotice p s).reply p tag .NOT_PERMITTED []))
    ∧ (fuelRunningRequest c = true → p = .E → s.running = false → exec c s = .next (s.reply p tag .BAD_PHASE []))
    ∧ (configuringRequest c = true → s.running = true →
      exec c s = .next ((holderNotice p s).reply p tag .BAD_PHASE []))

/-! ## Helm unit -/

/-- R6, R16, R3: in UNCLAIMED and HOLDING a claim, and a take whatever its line, makes the requester holder at once, and
is answered GRANTED. The order and the take-over count stay, and the decay timer stops. -/
def Obligations.FreeHelmIsGranted : Prop :=
  ∀ (p : Port) (b : Bridge) (tag : Byte) (line : Bool) (c : Instr) (s : State), Ready p s → OnBridge p b s → HelmLaw s →
    (s.helm.state = .UNCLAIMED ∨ s.helm.state = .HOLDING) → (c = .claimHelm p tag ∨ c = .takeHelm p tag line) →
    exec c s = .next ((State.post .HELM_CHANGED { s with helm := {
      state := .HELD, holder := some b, requester := none, queryDeadline := none
      silenceDeadline := some (s.now + ms 3000), lastHolder := s.helm.lastHolder, takeOvers := s.helm.takeOvers
      policyL := s.helm.policyL, policyH := s.helm.policyH, decayTimer := none } }).reply p tag .GRANTED [])

/-- R7, R16: a claim from the holder, in HELD or in QUERY, is answered DONE and restarts the silence deadline alone; so
is a take. A claim from the pending requester is answered BUSY by its port. -/
def Obligations.ClaimByHolder : Prop :=
  (∀ (p : Port) (b : Bridge) (tag : Byte) (line : Bool) (s : State), Ready p s → HoldsHelm p b s →
    exec (.claimHelm p tag) s = .next (s.heard.reply p tag .DONE [])
    ∧ exec (.takeHelm p tag line) s = .next (s.heard.reply p tag .DONE []))
  ∧ ∀ (b r : Bridge) (p : Port) (x : Slot) (tag : Byte) (s : State), s.inReset = false → QueryOpen b r x s →
    p = portOfBridge r → (s.port p).replies.length ≤ 5 →
    exec (.claimHelm p tag) s = .next
      ((s.setPort p { s.port p with busy := min 65535 ((s.port p).busy + 1) }).reply p tag .BUSY [])

/-- R8: a claim in HELD from the bridge that is not the holder, by the holder's yield policy: GRANTED with a change of
holder; DECLINED; or a query, with HELM_QUERY to the holder's port and the claim in flight on the requester's. -/
def Obligations.ClaimAgainstHolder : Prop :=
  ∀ (p : Port) (b h : Bridge) (tag : Byte) (s : State), Ready p s → OnBridge p b s → s.helm.state = .HELD →
    s.helm.holder = some h → h ≠ b →
    (s.helm.policy h = .YIELD_ALWAYS → exec (.claimHelm p tag) s = .next
      ((State.post .HELM_CHANGED { s with helm := s.helm.passedTo b h s.now }).reply p tag .GRANTED []))
    ∧ (s.helm.policy h = .YIELD_NEVER → exec (.claimHelm p tag) s = .next (s.reply p tag .DECLINED []))
    ∧ (s.helm.policy h = .YIELD_ON_ANSWER → exec (.claimHelm p tag) s = .next
      ((State.postTo (portOfBridge h) .HELM_QUERY { s with helm := { s.helm with
        state := .QUERY, requester := some b, queryDeadline := some (s.now + ms 10000) } }).modPort p fun r =>
          { r with slot := some { code := 0x01, tag := tag } }))

/-- R10: the holder's answer ends the query: accept passes the helm and answers the claim GRANTED, decline answers it
DECLINED; outside a query, and from the other bridge, NOTHING_PENDING. -/
def Obligations.AnswerHelm : Prop :=
  (∀ (p : Port) (b r : Bridge) (x : Slot) (tag : Byte) (s : State), Ready p s → HoldsHelm p b s → QueryOpen b r x s →
    exec (.answerHelm p tag 1) s = .next
      ((((State.post .HELM_CHANGED { s with helm := s.helm.passedTo r b s.now }).reply (portOfBridge r) x.tag
        .GRANTED []).freed (portOfBridge r)).reply p tag .DONE [])
    ∧ exec (.answerHelm p tag 0) s = .next
      (((({ s.heard with helm := s.heard.helm.queryOver }).reply (portOfBridge r) x.tag
        .DECLINED []).freed (portOfBridge r)).reply p tag .DONE []))
  ∧ ∀ (p : Port) (b : Bridge) (tag choice : Byte) (s : State), Ready p s → OnBridge p b s →
    ((choice = 0 ∨ choice = 1) → ¬(s.helm.state = .QUERY ∧ s.helm.holder = some b) →
      exec (.answerHelm p tag choice) s = .next ((holderNotice p s).reply p tag .NOTHING_PENDING []))
    ∧ (2 ≤ choice.toNat → exec (.answerHelm p tag choice) s = .next ((holderNotice p s).reply p tag .BAD_VALUE []))

/-- R11, R173: CANCEL from the pending requester ends the query: the claim is answered CANCELLED and its slot freed before
the cancel is answered DONE. With no claim in flight it is answered NOTHING_PENDING, from port E NOT_PERMITTED. -/
def Obligations.CancelEndsQuery : Prop :=
  (∀ (b r : Bridge) (p : Port) (x : Slot) (tag : Byte) (s : State), Running s → QueryOpen b r x s → p = portOfBridge r →
    (s.port p).replies.length ≤ 5 →
    exec (.cancel p tag) s = .next
      ((((({ s with helm := s.helm.queryOver }).reply p x.tag .CANCELLED []).freed p)).reply p tag .DONE []))
  ∧ (∀ (p : Port) (b : Bridge) (tag : Byte) (s : State), Ready p s → OnBridge p b s → SlotLaw s →
    exec (.cancel p tag) s = .next ((holderNotice p s).reply p tag .NOTHING_PENDING []))
  ∧ ∀ (tag : Byte) (s : State), Ready .E s → exec (.cancel .E tag) s = .next (s.reply .E tag .NOT_PERMITTED [])

/-- R15: RELEASE_HELM in HELD leaves the helm UNCLAIMED with the demands at 0; in QUERY it passes the helm to the
requester, with the order as it stands; from a bridge that does not hold the helm it is answered NOT_HOLDER. -/
def Obligations.ReleaseHelm : Prop :=
  (∀ (p : Port) (b : Bridge) (tag : Byte) (s : State), Ready p s → HoldsHelm p b s → s.helm.state = .HELD →
    exec (.releaseHelm p tag) s = .next ((State.post .HELM_CHANGED { s with
      order := { s.order with thrust := 0, turn := 0 }
      helm := { state := .UNCLAIMED, holder := none, requester := none, queryDeadline := none, silenceDeadline := none
                lastHolder := some b, takeOvers := s.helm.takeOvers, policyL := s.helm.policyL
                policyH := s.helm.policyH, decayTimer := none } }).reply p tag .DONE []))
  ∧ (∀ (p : Port) (b r : Bridge) (x : Slot) (tag : Byte) (s : State), Ready p s → HoldsHelm p b s → QueryOpen b r x s →
    exec (.releaseHelm p tag) s = .next
      ((((State.post .HELM_CHANGED { s with helm := s.helm.passedTo r b s.now }).reply (portOfBridge r) x.tag
        .GRANTED []).freed (portOfBridge r)).reply p tag .DONE []))
  ∧ ∀ (p : Port) (b : Bridge) (tag : Byte) (s : State), Ready p s → OnBridge p b s → s.helm.holder ≠ some b →
    exec (.releaseHelm p tag) s = .next (s.reply p tag .NOT_HOLDER [])

/-- R16: a take in HELD from the bridge that is not the holder, by its take-over line as sampled (log 6): asserted, the
helm passes, counted, with HELM_TAKEN to the former holder's port alone; deasserted, NOT_PERMITTED. The requester's take
in QUERY is answered BUSY by its port. -/
def Obligations.TakeHelm : Prop :=
  (∀ (p : Port) (b h : Bridge) (tag : Byte) (s : State), Ready p s → OnBridge p b s → s.helm.state = .HELD →
    s.helm.holder = some h → h ≠ b →
    exec (.takeHelm p tag true) s = .next ((State.postTo (portOfBridge h) .HELM_TAKEN
      (State.post .HELM_CHANGED { s.seeTake b true with
        helm := { s.helm.passedTo b h s.now with takeOvers := min 65535 (s.helm.takeOvers + 1) } })).reply
          p tag .GRANTED [])
    ∧ exec (.takeHelm p tag false) s = .next ((s.seeTake b false).reply p tag .NOT_PERMITTED []))
  ∧ ∀ (b r : Bridge) (p : Port) (x : Slot) (tag : Byte) (line : Bool) (s : State), s.inReset = false →
    QueryOpen b r x s → p = portOfBridge r → (s.port p).replies.length ≤ 5 →
    exec (.takeHelm p tag line) s = .next
      ((s.setPort p { s.port p with busy := min 65535 ((s.port p).busy + 1) }).reply p tag .BUSY [])

/-- R4, R5, R21: SET_YIELD_POLICY sets the policy of its own port; SET_ORDER of the holder writes the order, each demand
clamped into −1000 to +1000, and is answered CLAMPED where the clamp moved one. A value outside its set is refused
BAD_VALUE, and an order of another bridge NOT_HOLDER. -/
def Obligations.YieldPolicyAndOrder : Prop :=
  (∀ (p : Port) (b : Bridge) (tag : Byte) (y : YieldPolicy) (s : State), Ready p s → OnBridge p b s →
    exec (.setYieldPolicy p tag (BitVec.ofNat 8 y.ctorIdx)) s = .next (({ holderNotice p s with
      helm := match b with
        | .L => { (holderNotice p s).helm with policyL := y }
        | .H => { (holderNotice p s).helm with policyH := y } }).reply p tag .DONE []))
  ∧ (∀ (p : Port) (b : Bridge) (tag : Byte) (thrust turn : Half) (m : Mode) (s : State), Ready p s →
    HoldsHelm p b s → exec (.setOrder p tag thrust turn (BitVec.ofNat 8 m.ctorIdx)) s = .next (({ s.heard with
      order := { thrust := max (-1000) (min 1000 thrust.toInt), turn := max (-1000) (min 1000 turn.toInt), mode := m }
      }).reply p tag (if -1000 ≤ thrust.toInt ∧ thrust.toInt ≤ 1000 ∧ -1000 ≤ turn.toInt ∧ turn.toInt ≤ 1000
        then .DONE else .CLAMPED) []))
  ∧ ∀ (p : Port) (b : Bridge) (tag policy mode : Byte) (thrust turn : Half) (s : State), Ready p s → OnBridge p b s →
    (3 ≤ policy.toNat → exec (.setYieldPolicy p tag policy) s = .next ((holderNotice p s).reply p tag .BAD_VALUE []))
    ∧ (3 ≤ mode.toNat → exec (.setOrder p tag thrust turn mode) s = .next ((holderNotice p s).reply p tag .BAD_VALUE []))
    ∧ (mode.toNat ≤ 2 → s.helm.holder ≠ some b →
      exec (.setOrder p tag thrust turn mode) s = .next (s.reply p tag .NOT_HOLDER []))

/-- R12, R13, R18, R19, R14: what the expiry of the query deadline, of the silence deadline in QUERY and in HELD, and of
the decay timer do, moving the clock to its moment (log 3); a deadline that is absent does not expire. -/
def Obligations.HelmExpiries : Prop :=
  (∀ (b r : Bridge) (x : Slot) (d : Nat) (s : State), s.inReset = false → QueryOpen b r x s →
    (s.helm.queryDeadline = some d → exec .queryDeadlineExpiry s = .next
      (((({ s with now := max s.now d, helm := s.helm.queryOver }).reply (portOfBridge r) x.tag .TIMED_OUT []).freed
        (portOfBridge r))))
    ∧ (s.helm.silenceDeadline = some d → exec .silenceDeadlineExpiry s = .next
      (((State.post .HELM_CHANGED { s with
        now := max s.now d, helm := s.helm.passedTo r b (max s.now d) }).reply (portOfBridge r) x.tag .GRANTED []).freed
          (portOfBridge r))))
  ∧ (∀ (b : Bridge) (d : Nat) (s : State), s.inReset = false → s.helm.state = .HELD → s.helm.holder = some b →
    s.helm.silenceDeadline = some d → exec .silenceDeadlineExpiry s = .next
      (State.post .HELM_SILENT (State.post .HELM_CHANGED { s with
        now := max s.now d
        helm := { state := .HOLDING, holder := none, requester := none, queryDeadline := none, silenceDeadline := none
                  lastHolder := some b, takeOvers := s.helm.takeOvers, policyL := s.helm.policyL
                  policyH := s.helm.policyH, decayTimer := some (max s.now d + ms 100) } })))
  ∧ (∀ (d : Nat) (s : State), s.inReset = false → s.helm.decayTimer = some d → exec .decayTimerExpiry s = .next { s with
      now := max s.now d
      order := { s.order with thrust :=
        if -5 ≤ s.order.thrust ∧ s.order.thrust ≤ 5 then 0
        else if 0 < s.order.thrust then s.order.thrust - 5 else s.order.thrust + 5 }
      helm := { s.helm with decayTimer := some (d + ms 100) } })
  ∧ ∀ s : State, (s.helm.queryDeadline = none → exec .queryDeadlineExpiry s = .next s)
    ∧ (s.helm.silenceDeadline = none → exec .silenceDeadlineExpiry s = .next s)
    ∧ (s.helm.decayTimer = none → exec .decayTimerExpiry s = .next s)

/-! ## Allocator -/

/-- R24, R25, R28, R37, R43: each expiry of the pass timer restarts it (from its moment, log 3) and runs one pass on the
inputs as they stand: the record is replaced, the shares go to the engine sequencer and the limited turn, gains, mode and
pass number to the rudder controller, and THRUST_DEFICIT is posted where the deficit rises from 0. R25, R28, R30 to R32,
R36, R38 to R42: the fields of a pass's record, from the inputs as they stand, the share of every slot among them. -/
def Obligations.PassesOfTheAllocator : Prop :=
  ((∀ (d : Nat) (s t : State), s.inReset = false → s.passTimer = some d →
      t = { s with
        now := max s.now d
        passTimer := some (d + ms 100)
        alloc := passRecord s
        engineResult := some (passRecord s).shares
        rudderResult := some { uLim := (passRecord s).uLim, gains := (passRecord s).gains, mode := (passRecord s).mode
                               passNumber := (passRecord s).passNumber } } →
      exec .passTimerExpiry s =
        .next (if s.alloc.deficit = 0 ∧ (passRecord s).deficit ≠ 0 then t.post .THRUST_DEFICIT else t))
    ∧ ∀ s : State, s.passTimer = none → exec .passTimerExpiry s = .next s)
  ∧ ((∀ s : State, (passRecord s).passNumber = (s.alloc.passNumber + 1) % 2 ^ 32
        ∧ (passRecord s).ceilC = s.ceilings.c ∧ (passRecord s).ceilK = s.ceilings.k ∧ (passRecord s).mode = s.order.mode
        ∧ (passRecord s).wCfg = ((List.finRange 8).map fun i =>
            if s.engines[i].configured = true ∧ s.engines[i].cfg.axis = .AHEAD then s.engines[i].cfg.weight else 0).sum
        ∧ (passRecord s).wAvail = ((List.finRange 8).map fun i =>
            if s.engines[i].configured = true ∧ s.engines[i].cfg.axis = .AHEAD ∧ s.engines[i].eligible = true
            then s.engines[i].cfg.weight else 0).sum)
      ∧ (∀ s : State, s.order.mode = .STOP → (passRecord s).tLim = 0 ∧ (passRecord s).uLim = 0
        ∧ (passRecord s).deficit = 0 ∧ (∀ i : Fin 8, (passRecord s).shares[i] = 0)
        ∧ (∀ st, (passRecord s).gains.get st = 0) ∧ (passRecord s).lateral = 0 ∧ (passRecord s).rounds = 0)
      ∧ ∀ (s : State) (f : Fill), s.order.mode ≠ .STOP →
        f = waterFill s.engines ((passRecord s).tLim * (passRecord s).wCfg) (passRecord s).wAvail →
        (passRecord s).tLim = s.order.thrust.sign * (min s.order.thrust.natAbs s.ceilings.c : Nat)
        ∧ (passRecord s).uLim = s.order.turn.sign * (min s.order.turn.natAbs s.ceilings.k : Nat)
        ∧ (passRecord s).rounds = f.rounds
        ∧ (passRecord s).deficit = (if (passRecord s).wCfg = 0 then (passRecord s).tLim.natAbs else
            (((passRecord s).tLim * (passRecord s).wCfg).natAbs - (((List.finRange 8).map fun i =>
              if s.engines[i].fills then s.engines[i].cfg.weight * f.share s.engines i else 0).sum : Int).natAbs)
                / (passRecord s).wCfg)
        ∧ (∀ st, (passRecord s).gains.get st =
            if s.order.mode = .MANOEUVRE then s.params.diffGain
            else if ∃ i : Fin 8, s.rudders[i].configured = true ∧ s.rudders[i].cfg.kind = .MAIN
                ∧ s.rudders[i].cfg.station = st ∧ s.rudders[i].state = .ONLINE then 0
            else s.params.fallbackGain)
        ∧ (passRecord s).lateral =
            (if s.order.mode = .MANOEUVRE then ((passRecord s).uLim * s.params.bowGain).tdiv 1000 else 0)
        ∧ ∀ (i : Fin 8) (e : Engine) (turn before after : Int), e = s.engines[i] →
            turn = ((passRecord s).uLim * (passRecord s).gains.get e.cfg.station).tdiv 1000 →
            before = (if e.cfg.axis = .LATERAL then (passRecord s).lateral
              else f.share s.engines i
                + (if e.cfg.side = .PORT then turn else if e.cfg.side = .STARBOARD then -turn else 0)) →
            after = max (-(e.asternCap : Int)) (min e.aheadCap before) →
            (passRecord s).shares[i] =
              if e.configured = true ∧ e.eligible = true ∧ s.params.engageThreshold ≤ after.natAbs then after else 0)

/-- R33 to R35: the water-fill of a demand `d` over the eligible AHEAD engines: a round computes the common share, and
fixes at its cap each engine not yet fixed whose direction cap is less; the rounds go on until one fixes none or no
weight remains, of which 8 are enough; a fixed engine keeps its share and the others take the last common share, so that
each share has the sign of `d` or is 0 and keeps within the cap. R31, R39 to R42: after every pass the limited demands
lie within the ceilings read, each share within the caps read, a slot that is ABSENT or not eligible has share 0, and a
share that is not 0 is at least the engage threshold. -/
def Obligations.SharesKeepCaps : Prop :=
  (∀ (v : Vector Engine 8) (d : Int) (w : Nat) (f : Fill),
      f = { fixed := Vector.replicate 8 none, dRem := d, wRem := w, p := 0, rounds := 0 } →
      (w = 0 → waterFill v d w = f) ∧ (0 < w → waterFill v d w = Fill.run v d 8 f)
      ∧ ((∀ i : Fin 8, v[i].fills = true → 1 ≤ v[i].cfg.weight) → w = weightOf v Engine.fills → 0 < w →
        ∀ n : Nat, 8 ≤ n → Fill.run v d n f = Fill.run v d 8 f))
  ∧ (∀ (v : Vector Engine 8) (d : Int) (n : Nat) (f g : Fill), g = f.round v d →
      Fill.run v d (n + 1) f = if g.fixed = f.fixed ∨ g.wRem = 0 then g else Fill.run v d n g)
  ∧ (∀ (v : Vector Engine 8) (d : Int) (f : Fill) (cap : Fin 8 → Nat) (now : Fin 8 → Bool),
      (∀ i, cap i = if d < 0 then v[i].asternCap else v[i].aheadCap) →
      (∀ i, now i = true ↔ (v[i].configured = true ∧ v[i].cfg.axis = .AHEAD ∧ v[i].eligible = true)
        ∧ f.fixed[i] = none ∧ cap i < (f.dRem.tdiv f.wRem).natAbs) →
      f.round v d = {
        fixed := Vector.ofFn fun i => if now i = true then some (d.sign * (cap i : Nat)) else f.fixed[i]
        dRem := f.dRem - d.sign * (((List.finRange 8).map fun i => if now i = true then v[i].cfg.weight * cap i else 0).sum : Nat)
        wRem := f.wRem - ((List.finRange 8).map fun i => if now i = true then v[i].cfg.weight else 0).sum
        p := f.dRem.tdiv f.wRem
        rounds := f.rounds + 1 }
      ∧ ∀ i : Fin 8, f.share v i = if v[i].configured = true ∧ v[i].cfg.axis = .AHEAD ∧ v[i].eligible = true
        then f.fixed[i].getD f.p else 0)
  ∧ (∀ (v : Vector Engine 8) (d : Int) (f : Fill), (∀ i : Fin 8, v[i].fills = true → 1 ≤ v[i].cfg.weight) →
      f = waterFill v d (weightOf v Engine.fills) →
      f.rounds ≤ 8 ∧ (weightOf v Engine.fills = 0 → f.rounds = 0) ∧ (d = 0 → 0 < weightOf v Engine.fills → f.rounds = 1)
      ∧ ∀ i : Fin 8, (v[i].fills = false → f.share v i = 0)
        ∧ (v[i].fills = true → (0 < d → 0 ≤ f.share v i ∧ f.share v i ≤ v[i].aheadCap)
          ∧ (d < 0 → f.share v i ≤ 0 ∧ -(v[i].asternCap : Int) ≤ f.share v i) ∧ (d = 0 → f.share v i = 0)
          ∧ (f.share v i = f.p ∨ f.share v i = d.sign * (v[i].directionCap d : Nat))))
  ∧ (∀ s : State, (passRecord s).tLim.natAbs ≤ s.ceilings.c ∧ (passRecord s).uLim.natAbs ≤ s.ceilings.k
        ∧ ∀ i : Fin 8, -(s.engines[i].asternCap : Int) ≤ (passRecord s).shares[i]
          ∧ (passRecord s).shares[i] ≤ s.engines[i].aheadCap
          ∧ ((s.engines[i].configured = false ∨ s.engines[i].eligible = false) → (passRecord s).shares[i] = 0)
          ∧ ((passRecord s).shares[i] ≠ 0 → s.params.engageThreshold ≤ ((passRecord s).shares[i]).natAbs))

/-! ## Reads -/

/-- R2, R27, R46, R68, R77, R81, R100, R104, R121, R138, R151, R157, R176, R178, R180, R183: a read is answered DONE
with the fields as they stand, or BAD_INDEX, from any port in either phase, and changes nothing but the silence deadline
(R17). -/
def Obligations.ReadsAnswer : Prop :=
  ∀ (c : Instr) (p : Port) (tag : Byte) (r : Result) (body : List Byte) (s : State), Ready p s →
    requestFrom c = some (p, tag) → readAnswer (holderNotice p s) c = some (r, body) →
    exec c s = .next ((holderNotice p s).reply p tag r body)

/-- 12.3: the places of the fields in the bodies that have a layout of
their own, that of READ_PHASE among them. R188, R46, R68, R77, R81, R100, R104, R121, R138, R157, R178, R183: the places
in every other read body, the fields in the order of their tables (what R188 leaves open in them is log 25; an empty
slot of a claim in flight log 14). R188: the encodings: a number high byte first, in two's complement where it is
signed, an optional field, a deadline and an age (rounded by a free value where it is no whole number of ms, log 11). -/
def Obligations.BodyLayouts : Prop :=
  (∀ s : State, (helmBody s).length = 26 ∧ slice (helmBody s) 0 1 = [BitVec.ofNat 8 s.helm.state.ctorIdx]
    ∧ slice (helmBody s) 1 2 = encBridge s.helm.holder ∧ slice (helmBody s) 3 2 = encBridge s.helm.requester
    ∧ slice (helmBody s) 5 5 = encDeadline s.now s.helm.queryDeadline
    ∧ slice (helmBody s) 10 5 = encDeadline s.now s.helm.silenceDeadline
    ∧ slice (helmBody s) 15 2 = encBridge s.helm.lastHolder ∧ slice (helmBody s) 17 2 = be 2 s.helm.takeOvers
    ∧ slice (helmBody s) 19 2 = [BitVec.ofNat 8 s.helm.policyL.ctorIdx, BitVec.ofNat 8 s.helm.policyH.ctorIdx]
    ∧ slice (helmBody s) 21 2 = beInt 2 s.order.thrust ∧ slice (helmBody s) 23 2 = beInt 2 s.order.turn
    ∧ slice (helmBody s) 25 1 = [BitVec.ofNat 8 s.order.mode.ctorIdx])
  ∧ (∀ s : State, (allocationBody s).length = 44 ∧ slice (allocationBody s) 0 4 = be 4 s.alloc.passNumber
    ∧ slice (allocationBody s) 4 2 = beInt 2 s.alloc.tLim ∧ slice (allocationBody s) 6 2 = beInt 2 s.alloc.uLim
    ∧ slice (allocationBody s) 8 2 = be 2 s.alloc.ceilC ∧ slice (allocationBody s) 10 2 = be 2 s.alloc.ceilK
    ∧ slice (allocationBody s) 12 1 = [BitVec.ofNat 8 s.alloc.mode.ctorIdx]
    ∧ slice (allocationBody s) 13 2 = be 2 s.alloc.wCfg ∧ slice (allocationBody s) 15 2 = be 2 s.alloc.wAvail
    ∧ slice (allocationBody s) 17 2 = be 2 s.alloc.deficit
    ∧ (∀ i : Fin 8, slice (allocationBody s) (19 + 2 * i.val) 2 = beInt 2 s.alloc.shares[i])
    ∧ slice (allocationBody s) 35 6 =
      be 2 s.alloc.gains.lead ++ be 2 s.alloc.gains.helper ++ be 2 s.alloc.gains.bow
    ∧ slice (allocationBody s) 41 2 = beInt 2 s.alloc.lateral ∧ slice (allocationBody s) 43 1 = be 1 s.alloc.rounds)
  ∧ (∀ (n : Nat) (r : MovementRecord), (recordBody n r).length = 32 ∧ slice (recordBody n r) 0 1 = be 1 n
    ∧ (∀ x, r.number = some x → slice (recordBody n r) 1 2 = be 2 x)
    ∧ (∀ k, r.kind = some k → slice (recordBody n r) 3 1 = [BitVec.ofNat 8 k.ctorIdx])
    ∧ slice (recordBody n r) 4 2 = encOpt 1 (fun t : Fin 8 => be 1 t.val) r.source
    ∧ (∀ t, r.destination = some t → slice (recordBody n r) 6 1 = be 1 t.val)
    ∧ (∀ m, r.mode = some m → slice (recordBody n r) 7 1 = [BitVec.ofNat 8 m.ctorIdx])
    ∧ slice (recordBody n r) 8 4 = encOpt 3 (be 3) r.target ∧ slice (recordBody n r) 12 4 = be 4 r.moved
    ∧ slice (recordBody n r) 16 4 = be 4 r.runOn ∧ slice (recordBody n r) 20 1 = flag r.overflow
    ∧ slice (recordBody n r) 21 2 = be 2 r.wraps
    ∧ (∀ x, r.stopReason = some x → slice (recordBody n r) 23 1 = [BitVec.ofNat 8 x.ctorIdx])
    ∧ (∀ x, r.startSecond = some x → slice (recordBody n r) 24 4 = be 4 x)
    ∧ slice (recordBody n r) 28 4 = be 4 r.endSecond)
  ∧ (∀ n : Nat, invalidBody n none = [BitVec.ofNat 8 n, 0, 0, 0, 0])
  ∧ (∀ (n : Nat) (x : CommitItem), invalidBody n (some x) =
    [BitVec.ofNat 8 n, 1, BitVec.ofNat 8 x.table.ctorIdx, BitVec.ofNat 8 x.index, BitVec.ofNat 8 x.position])
  ∧ (∀ s : State, (phaseBody s).length = 12 ∧ slice (phaseBody s) 0 1 = [BitVec.ofNat 8 s.phase.phase.ctorIdx]
    ∧ slice (phaseBody s) 1 4 = be 4 s.phase.seconds
    ∧ (s.phase.lastCommit = none → slice (phaseBody s) 5 7 = [0, 0, 0, 0, 0, 0, 0])
    ∧ (s.phase.lastCommit = some .done → slice (phaseBody s) 5 7 = [1, 0, 0, 0, 0, 0, 0])
    ∧ ∀ (n : Nat) (x : Option CommitItem), s.phase.lastCommit = some (.invalid n x) →
      slice (phaseBody s) 5 7 = [1, 24] ++ invalidBody n x)
  ∧ (∀ n v : Nat, (be n v).length = n ∧ (be n v).foldl (fun a b => a * 256 + b.toNat) 0 = v % 256 ^ n)
  ∧ (∀ (n : Nat) (v : Int), (beInt n v).length = n
    ∧ (((beInt n v).foldl (fun a b => a * 256 + b.toNat) 0 : Nat) : Int) = v % (256 ^ n : Nat))
  ∧ (∀ s : State, LaidOut (paramsBody s) 15
      [(0, be 2 s.params.diffGain), (2, be 2 s.params.fallbackGain), (4, be 2 s.params.bowGain),
       (6, be 1 s.params.engageThreshold), (7, be 2 s.params.releaseThreshold), (9, be 2 s.params.strainFactor),
       (11, be 2 s.params.gearDwell), (13, be 2 s.params.trackingBand)])
  ∧ (∀ (e : Engine) (t : EngineTotals) (now : Nat), LaidOut (e.body now ++ t.body) 83
      [(0, flag e.configured), (1, [BitVec.ofNat 8 e.cfg.station.ctorIdx]), (2, [BitVec.ofNat 8 e.cfg.axis.ctorIdx]),
       (3, [BitVec.ofNat 8 e.cfg.side.ctorIdx]), (4, be 1 e.cfg.weight), (5, be 2 e.cfg.idleRpm),
       (7, be 2 e.cfg.maxRpm), (9, be 2 e.cfg.upRamp), (11, be 2 e.cfg.downRamp), (13, be 2 e.cfg.asternLimit),
       (15, be 2 e.cfg.economyCap), (17, be 2 e.cfg.ratedRate), (19, be 1 e.cfg.feedTank.val),
       (20, encOpt 1 (fun i : Fin 16 => be 1 i.val) e.cfg.meter), (22, encNode e.node), (25, flag e.standby),
       (26, flag e.nodeAvailable), (27, [if e.fault = none then 0 else if e.fault = some .SHUTDOWN then 1 else 2]),
       (28, flag e.derate), (29, flag e.tracking), (30, [BitVec.ofNat 8 e.feed.ctorIdx]),
       (31, [BitVec.ofNat 8 e.state.ctorIdx]), (32, flag e.eligible), (33, be 2 e.aheadCap), (35, be 2 e.asternCap),
       (37, [BitVec.ofNat 8 e.gear.ctorIdx]), (38, be 2 e.rpm),
       (40, encOpt 1 (fun x : Engaged => [BitVec.ofNat 8 x.ctorIdx]) e.lastGear), (42, encDeadline now e.dwell),
       (47, encDeadline now e.confirm), (52, flag e.confirmed), (53, encDeadline now e.trackDeadline),
       (58, encOpt 6 (fun r : EngineReport => be 2 r.rpm ++ [BitVec.ofNat 8 r.gear.ctorIdx] ++ be 2 r.rack
          ++ [BitVec.ofNat 8 r.fault.ctorIdx]) e.lastReport), (65, be 2 (ageMs now e.reportAt)),
       (67, beInt 6 t.metered), (73, be 6 t.estimated), (79, be 4 t.unaccounted)])
  ∧ (∀ (r : Rudder) (now : Nat), LaidOut (r.body now) 24
      [(0, flag r.configured), (1, [BitVec.ofNat 8 r.cfg.station.ctorIdx]), (2, [BitVec.ofNat 8 r.cfg.kind.ctorIdx]),
       (3, be 2 r.cfg.maxAngle), (5, be 1 r.cfg.slew), (6, encNode r.node), (9, flag r.nodeAvailable),
       (10, flag r.jam), (11, [BitVec.ofNat 8 r.state.ctorIdx]), (12, beInt 2 r.target), (14, beInt 2 r.commanded),
       (16, encDeadline now r.jamDeadline), (21, encOpt 2 (beInt 2) r.lastAngle)])
  ∧ (∀ s : State, LaidOut (steeringBody s) 19
      [(0, flag (decide (∃ i : Fin 8, s.rudders[i].configured = true ∧ s.rudders[i].cfg.kind = .MAIN
          ∧ s.rudders[i].cfg.station = .LEAD ∧ s.rudders[i].state = .ONLINE))), (1, flag s.steering.backing.lead),
       (2, be 2 s.steering.gains.lead),
       (4, flag (decide (∃ i : Fin 8, s.rudders[i].configured = true ∧ s.rudders[i].cfg.kind = .MAIN
          ∧ s.rudders[i].cfg.station = .HELPER ∧ s.rudders[i].state = .ONLINE))),
       (5, flag s.steering.backing.helper), (6, be 2 s.steering.gains.helper),
       (8, flag (decide (∃ i : Fin 8, s.rudders[i].configured = true ∧ s.rudders[i].cfg.kind = .MAIN
          ∧ s.rudders[i].cfg.station = .BOW ∧ s.rudders[i].state = .ONLINE))), (9, flag s.steering.backing.bow),
       (10, be 2 s.steering.gains.bow), (12, beInt 2 s.steering.uLim),
       (14, [BitVec.ofNat 8 s.steering.mode.ctorIdx]), (15, be 4 s.steering.passNumber)])
  ∧ (∀ (c : Coupling) (now : Nat), LaidOut (c.body now) 43
      [(0, flag c.used), (1, [BitVec.ofNat 8 c.cfg.kind.ctorIdx]), (2, be 2 c.cfg.slackLevel),
       (4, be 2 c.cfg.target), (6, be 2 c.cfg.band), (8, be 2 c.cfg.strainLevel), (10, be 2 c.cfg.recoveryLevel),
       (12, be 2 c.cfg.renderLevel), (14, flag c.cfg.autoTend), (15, encNode c.node),
       (18, [BitVec.ofNat 8 c.state.ctorIdx]), (19, flag c.nodeAvailable), (20, [BitVec.ofNat 8 c.command.ctorIdx]),
       (21, encOpt 2 (be 2) c.lastTension),
       (24, encOpt 1 (fun x : DrumStatus => [BitVec.ofNat 8 x.ctorIdx]) c.lastDrum),
       (26, be 2 (ageMs now c.reportAt)), (28, encDeadline now c.freshness), (33, encStateDeadline now c.deadline),
       (39, be 2 c.overloads), (41, be 2 c.peak)])
  ∧ (∀ s : State, LaidOut (ceilingsBody s) 12
      [(0, be 2 s.ceilings.c), (2, be 2 s.ceilings.k), (4, encOpt 1 (fun i : Fin 24 => be 1 i.val)
          (settingIndex (Coupling.thrust s.params) s.couplings s.ceilings.c)),
       (6, encOpt 1 (fun i : Fin 24 => be 1 i.val) (settingIndex Coupling.turn s.couplings s.ceilings.k)),
       (8, be 2 s.params.releaseThreshold), (10, be 2 s.params.strainFactor)])
  ∧ (∀ m : Meter, LaidOut m.body 57
      [(0, flag m.used), (1, [BitVec.ofNat 8 m.cfg.kind.ctorIdx]),
       (2, encOpt 1 (fun i : Fin 8 => be 1 i.val) m.cfg.engine), (4, be 2 m.cfg.weight1), (6, be 2 m.cfg.weight2),
       (8, be 2 m.cfg.alpha), (10, be 2 m.cfg.limit), (12, encNode m.node), (15, encOpt 2 (be 2) m.ch1.baseline),
       (18, encOpt 2 (be 2) m.ch2.baseline), (21, be 3 m.ch1.residue), (24, be 3 m.ch2.residue),
       (27, flag m.ch1.tempInvalid), (28, flag m.ch2.tempInvalid),
       (29, encOpt 4 (fun r : ChannelReport => be 2 r.count ++ encTemp r.temp) m.ch1.last),
       (34, encOpt 4 (fun r : ChannelReport => be 2 r.count ++ encTemp r.temp) m.ch2.last),
       (39, flag m.nodeAvailable), (40, flag m.heard), (41, be 4 m.excess), (45, be 2 m.implausible),
       (47, be 4 m.stray), (51, flag m.estimating), (52, be 2 m.estResidue), (54, be 2 m.heldRack),
       (56, be 1 m.rackHold)])
  ∧ (∀ (s : State) (i : Fin 8) (t : Tank), t = s.tanks[i] → LaidOut (tankBody s i) 84
      [(0, flag t.used), (1, [BitVec.ofNat 8 t.cfg.station.ctorIdx]), (2, be 3 t.cfg.capacity), (5, be 3 t.cfg.high),
       (8, be 3 t.cfg.low), (11, be 3 t.cfg.reserve), (14, be 3 t.cfg.empty), (17, be 2 t.cfg.hysteresis),
       (19, flag t.cfg.fitted), (20, [BitVec.ofNat 8 t.cfg.source.ctorIdx]), (21, be 2 t.cfg.limit),
       (23, encNode t.node), (26, beInt 4 t.account.book), (30, beInt 4 t.account.opening),
       (34, beInt 6 t.account.received), (40, beInt 6 t.account.transferIn), (46, beInt 6 t.account.transferOut),
       (52, beInt 6 t.account.consumed), (58, flag t.account.saturated), (59, encOpt 3 (be 3) t.sounding),
       (63, flag t.soundingValid), (64, encOpt 1 (fun x : TankState => [BitVec.ofNat 8 x.ctorIdx]) t.state),
       (66, flag t.discrepancy), (67, encDeadline s.now t.discDeadline),
       (72, beInt 6 (if t.cfg.source = .SOUNDING ∧ t.soundingValid = true ∧ t.sounding ≠ none
          then (t.sounding.getD 0 : Int) * 1000 else t.account.book)),
       (78, beInt 4 (max 0 (min ((t.cfg.capacity : Int) * 1000) ((t.cfg.capacity : Int) * 1000 - t.account.book)))),
       (82, (if s.channels[0].state ≠ .IDLE ∧ (s.channels[0].source = some i ∨ s.channels[0].destination = some i) then [1, 0]
          else if s.channels[1].state ≠ .IDLE ∧ (s.channels[1].source = some i ∨ s.channels[1].destination = some i) then [1, 1]
          else [0, 0]))])
  ∧ (∀ (c : Channel) (now next : Nat), LaidOut (c.body now ++ be 2 next) 54
      [(0, [BitVec.ofNat 8 c.state.ctorIdx]),
       (1, encOpt 1 (fun x : MovementKind => [BitVec.ofNat 8 x.ctorIdx]) c.kind),
       (3, encOpt 1 (fun i : Fin 8 => be 1 i.val) c.source),
       (5, encOpt 1 (fun i : Fin 8 => be 1 i.val) c.destination),
       (7, encOpt 1 (fun i : Fin 16 => be 1 i.val) c.meter), (9, encNode c.pump),
       (12, encOpt 1 (fun x : MovementMode => [BitVec.ofNat 8 x.ctorIdx]) c.mode), (14, encOpt 3 (be 3) c.target),
       (18, be 4 c.moved), (22, flag c.overflow), (23, be 2 c.wraps), (25, be 4 c.runOn),
       (29, encOpt 1 (fun x : StopReason => [BitVec.ofNat 8 x.ctorIdx]) c.stopReason),
       (31, encOpt 4 (be 4) c.stopSecond), (36, encDeadline now c.settling), (41, be 1 c.zeroReports),
       (42, encOpt 2 (be 2) c.number), (45, encOpt 4 (be 4) c.startSecond),
       (50, encOpt 1 (fun x : PumpStatus => [BitVec.ofNat 8 x.ctorIdx]) c.lastPump), (52, be 2 next)])
  ∧ (∀ c : LineCtl, LaidOut c.body 17
      [(0, [BitVec.ofNat 8 c.activity.ctorIdx]), (1, be 2 c.round),
       (3, encOpt 1 (fun i : Fin 32 => be 1 i.val) c.position),
       (5, encOpt 1 (fun x : Attempt => [BitVec.ofNat 8 x.ctorIdx]) c.attempt), (7, be 4 c.strays),
       (11, be 4 c.roundsCompleted), (15, flag c.lineDown),
       (16, be 1 ((List.finRange 32).filter fun i => c.nodes[i].isSome).length)])
  ∧ (∀ r : PortRec, LaidOut r.body 15
      [(0, be 3 (if r.rate = .r115200 then 115200 else 460800)), (3, be 2 r.badCheck), (5, be 2 r.truncated),
       (7, be 2 r.oversize), (9, be 2 r.busy), (11, encOpt 2 (fun x : Slot => [x.code, x.tag]) r.slot),
       (14, be 1 r.replies.length)])
  ∧ nodeBody none = [0]
  ∧ (∀ e : NodeEntry, LaidOut (nodeBody (some e))
      (17 + (encOpt e.bound.reportWidth NodeReport.body e.lastReport).length)
      [(0, [1]), (1, [BitVec.ofNat 8 e.bound.kind]), (2, be 1 e.address), (3, encOpt 1 (be 1) e.bound.number),
       (5, [BitVec.ofNat 8 e.state.ctorIdx]), (6, be 1 e.failures), (7, be 2 e.noise), (9, be 2 e.framing),
       (11, be 2 e.check), (13, be 2 e.timeout), (15, be 2 e.stray),
       (17, encOpt e.bound.reportWidth NodeReport.body e.lastReport)])
  ∧ (∀ (i : Fin 8) (j : Fin 24) (k : Fin 16),
    [Bound.engine i, .rudder i, .winch j, .meter k, .tank i, .pump].map (fun b => (b.kind, b.number, b.reportWidth)) =
      [(0, some i.val, 6), (1, some i.val, 2), (2, some j.val, 3), (3, some k.val, 8), (4, some i.val, 4), (5, none, 1)])
  ∧ (∀ (e : EngineReport) (a : Int) (w : WinchReport) (m : MeterReport) (t : TankReport) (x : PumpStatus),
    (NodeReport.engine e).body = be 2 e.rpm ++ [BitVec.ofNat 8 e.gear.ctorIdx] ++ be 2 e.rack
      ++ [BitVec.ofNat 8 e.fault.ctorIdx]
    ∧ (NodeReport.rudder a).body = beInt 2 a
    ∧ (NodeReport.winch w).body = be 2 w.tension ++ [BitVec.ofNat 8 w.drum.ctorIdx]
    ∧ (NodeReport.meter m).body = be 2 m.ch1.count ++ encTemp m.ch1.temp ++ be 2 m.ch2.count ++ encTemp m.ch2.temp
    ∧ (NodeReport.tank t).body = be 3 t.level ++ flag t.valid
    ∧ (NodeReport.pump x).body = [BitVec.ofNat 8 x.ctorIdx])
  ∧ (∀ (f : Coupling → Option Nat) (v : Vector Coupling 24) (c : Nat), settingIndex f v 1000 = none
    ∧ (c ≠ 1000 → ((∀ i : Fin 24, f v[i] ≠ some c) → settingIndex f v c = none)
      ∧ ∀ i : Fin 24, f v[i] = some c → (∀ j < i, f v[j] ≠ some c) → settingIndex f v c = some i))
  ∧ (∀ e : EventSet, encEvents e = be 3 e.toNat)
  ∧ (∀ (l : Line) (a : Nat), encNode none = [0, 0, 0]
    ∧ encNode (some { line := l, address := a }) = [1, BitVec.ofNat 8 l.ctorIdx, BitVec.ofNat 8 a])
  ∧ (∀ t : Int, encTemp none = [0x80, 0x00] ∧ encTemp (some t) = beInt 2 t)
  ∧ (∀ (α : Type) (n : Nat) (enc : α → List Byte) (x : α),
    encOpt n enc none = List.replicate (n + 1) 0 ∧ encOpt n enc (some x) = 1 :: enc x)
  ∧ (∀ b : Option Bridge, encBridge b = if b = none then [0, 0] else if b = some .L then [1, 0] else [1, 1])
  ∧ (∀ b : Bool, flag b = if b = true then [1] else [0])
  ∧ (∀ now : Nat, ageMs now none = 65535
    ∧ ∀ t : Nat, ∃ n : Nat, ageMs now (some t) = min 65535 n
      ∧ ((now - t) % 2304 = 0 → n = (now - t) / 2304)
      ∧ (n = (now - t) / 2304 ∨ n = (now - t) / 2304 + 1))
  ∧ ∀ now : Nat, encDeadline now none = [0, 0, 0, 0, 0] ∧ encStateDeadline now none = [0, 0, 0, 0, 0, 0]
    ∧ ∀ (d : Nat) (k : StateDeadlineKind), ∃ n : Nat, encDeadline now (some d) = 1 :: be 4 n
      ∧ encStateDeadline now (some { kind := k, time := d }) = 1 :: BitVec.ofNat 8 k.ctorIdx :: be 4 n
      ∧ ((d - now) % 2304 = 0 → n = (d - now) / 2304)
      ∧ (n = (d - now) / 2304 ∨ n = (d - now) / 2304 + 1)

/-- R98, R104, R157, R178: the reads that clear: the body carries the values held before, and the fields named go to 0
(the peak to the last tension). The clear option of READ_METER belongs to port E, that of READ_PORT_STATUS to the port
itself; a clear option of another value is refused BAD_VALUE, and an index, line, position or port past its table
BAD_INDEX. -/
def Obligations.ClearingReads : Prop :=
  (∀ (p : Port) (tag : Byte) (i : Fin 24) (s : State), Ready p s →
    exec (.readPeak p tag (BitVec.ofNat 8 i.val)) s = .next (((holderNotice p s).setCoupling i { s.couplings[i] with
      peak := s.couplings[i].lastTension.getD 0 }).reply p tag .DONE (be 2 s.couplings[i].peak)))
  ∧ (∀ (p : Port) (tag index : Byte) (s : State), Ready p s → 24 ≤ index.toNat →
    exec (.readPeak p tag index) s = .next ((holderNotice p s).reply p tag .BAD_INDEX []))
  ∧ (∀ (tag : Byte) (i : Fin 16) (s : State), Ready .E s →
    exec (.readMeter .E tag (BitVec.ofNat 8 i.val) 1) s = .next ((s.setMeter i { s.meters[i] with
      excess := 0, implausible := 0, stray := 0 }).reply .E tag .DONE s.meters[i].body))
  ∧ (∀ (p : Port) (tag index : Byte) (s : State), Ready p s → p ≠ .E →
    exec (.readMeter p tag index 1) s = .next ((holderNotice p s).reply p tag .NOT_PERMITTED []))
  ∧ (∀ (p : Port) (tag : Byte) (l : Line) (i : Fin 32) (s : State), Ready p s →
    exec (.readNode p tag (BitVec.ofNat 8 l.ctorIdx) (BitVec.ofNat 8 i.val) 1) s = .next
      ((match (s.line l).nodes[i] with
        | some e => (holderNotice p s).setLine l { s.line l with nodes := (s.line l).nodes.set i (some { e with
            noise := 0, framing := 0, check := 0, timeout := 0, stray := 0 }) }
        | none => holderNotice p s).reply p tag .DONE (nodeBody (s.line l).nodes[i])))
  ∧ (∀ (p : Port) (tag : Byte) (l : Line) (s : State), Ready p s →
    exec (.readLine p tag (BitVec.ofNat 8 l.ctorIdx) 1) s = .next
      (((holderNotice p s).setLine l { s.line l with strays := 0 }).reply p tag .DONE (s.line l).body))
  ∧ (∀ (p q : Port) (tag : Byte) (s : State), Ready p s →
    exec (.readPortStatus p tag (BitVec.ofNat 8 q.ctorIdx) 1) s = .next
      (if q = p then ((holderNotice p s).setPort p { s.port p with
          badCheck := 0, truncated := 0, oversize := 0, busy := 0 }).reply p tag .DONE (s.port p).body
       else (holderNotice p s).reply p tag .NOT_PERMITTED []))
  ∧ (∀ (p q : Port) (tag clear : Byte) (i : Fin 16) (l : Line) (j : Fin 32) (c : Instr) (s : State), Ready p s →
    2 ≤ clear.toNat →
    (c = .readMeter p tag (BitVec.ofNat 8 i.val) clear
      ∨ c = .readNode p tag (BitVec.ofNat 8 l.ctorIdx) (BitVec.ofNat 8 j.val) clear
      ∨ c = .readLine p tag (BitVec.ofNat 8 l.ctorIdx) clear
      ∨ c = .readPortStatus p tag (BitVec.ofNat 8 q.ctorIdx) clear) →
    exec c s = .next ((holderNotice p s).reply p tag .BAD_VALUE []))
  ∧ ∀ (p : Port) (tag x y clear : Byte) (c : Instr) (s : State), Ready p s →
    ((c = .readMeter p tag x clear ∧ 16 ≤ x.toNat ∧ (p = .E ∨ clear ≠ 1)) ∨ (c = .readLine p tag x clear ∧ 2 ≤ x.toNat)
      ∨ (c = .readNode p tag x y clear ∧ (2 ≤ x.toNat ∨ 32 ≤ y.toNat))
      ∨ (c = .readPortStatus p tag x clear ∧ 3 ≤ x.toNat)) →
    exec c s = .next ((holderNotice p s).reply p tag .BAD_INDEX [])

/-! ## Configuration -/

/-- R183, R29, R62, R84: WRITE_PARAMETERS by its table: any port in CONFIGURING, within the range; in RUNNING the holder,
the first four alone, clamped. -/
def Obligations.WriteParameters : Prop :=
  ([Parameter.diffGain, .fallbackGain, .bowGain, .engageThreshold, .releaseThreshold, .strainFactor, .gearDwell,
      .trackingBand].map fun x => (x.ctorIdx, x.low, x.high, x.live)) =
    [(0, 0, 500, true), (1, 0, 500, true), (2, 0, 1000, true), (3, 0, 200, true), (4, 0, 300, false),
      (5, 100, 1000, false), (6, 1000, 10000, false), (7, 20, 1000, false)]
  ∧ (∀ (q : Params) (v : Nat), q.put .diffGain v = { q with diffGain := v }
    ∧ q.put .fallbackGain v = { q with fallbackGain := v } ∧ q.put .bowGain v = { q with bowGain := v }
    ∧ q.put .engageThreshold v = { q with engageThreshold := v }
    ∧ q.put .releaseThreshold v = { q with releaseThreshold := v }
    ∧ q.put .strainFactor v = { q with strainFactor := v } ∧ q.put .gearDwell v = { q with gearDwell := v }
    ∧ q.put .trackingBand v = { q with trackingBand := v })
  ∧ (∀ (p : Port) (tag : Byte) (x : Parameter) (v : Half) (s : State), Ready p s → s.running = false →
    exec (.writeParameters p tag (BitVec.ofNat 8 x.ctorIdx) v) s = .next
      (if x.low ≤ v.toNat ∧ v.toNat ≤ x.high
       then ({ holderNotice p s with params := s.params.put x v.toNat }).reply p tag .DONE []
       else (holderNotice p s).reply p tag .BAD_VALUE []))
  ∧ (∀ (p : Port) (tag : Byte) (x : Parameter) (v : Half) (s : State), Ready p s → s.running = true →
    (x.live = false → exec (.writeParameters p tag (BitVec.ofNat 8 x.ctorIdx) v) s =
      .next ((holderNotice p s).reply p tag .BAD_PHASE []))
    ∧ (x.live = true → p = .E → exec (.writeParameters p tag (BitVec.ofNat 8 x.ctorIdx) v) s =
      .next (s.reply p tag .NOT_PERMITTED []))
    ∧ ∀ b, x.live = true → bridgeOf p = some b →
      (s.helm.holder ≠ some b → exec (.writeParameters p tag (BitVec.ofNat 8 x.ctorIdx) v) s =
        .next (s.reply p tag .NOT_HOLDER []))
      ∧ (s.helm.holder = some b → exec (.writeParameters p tag (BitVec.ofNat 8 x.ctorIdx) v) s = .next
        (({ s.heard with params := s.params.put x (max x.low (min x.high v.toNat)) }).reply p tag
          (if x.low ≤ v.toNat ∧ v.toNat ≤ x.high then .DONE else .CLAMPED) [])))
  ∧ ∀ (p : Port) (tag n : Byte) (v : Half) (s : State), Ready p s → 8 ≤ n.toNat →
    exec (.writeParameters p tag n v) s = .next ((holderNotice p s).reply p tag .BAD_VALUE [])

/-- R47, R69, R82: WRITE_ENGINE, WRITE_RUDDER and WRITE_COUPLING in CONFIGURING: the whole configuration with the
run-time fields at their POR values, ABSENT or UNUSED by the marker 0, BAD_INDEX, and BAD_VALUE for a field outside its
row. R48, R45, R46, R67, R68, R80, R81: those values, field by field. R70, R85: a write that leaves the slot or entry in
another state posts the change (log 34); what becomes of the node fields is log 17. -/
def Obligations.WriteControlTables : Prop :=
  (∀ (configured : Bool) (g : EngineCfg) (n : Option NodeRef) (f : FeedLevel), Engine.fresh configured g n f =
      { configured := configured, cfg := g, node := n, standby := false, nodeAvailable := false, fault := none
        derate := false, tracking := false, feed := f, state := if configured = true then .LOST else .ABSENT
        eligible := false, aheadCap := 0, asternCap := 0, gear := .NEUTRAL, rpm := g.idleRpm, lastGear := none
        dwell := none, confirm := none, confirmed := false, trackDeadline := none, lastReport := none, reportAt := none }
    ∧ Engine.por = Engine.fresh false
      { station := .LEAD, axis := .AHEAD, side := .CENTRE, weight := 1, idleRpm := 600, maxRpm := 1800, upRamp := 100
        downRamp := 200, asternLimit := 700, economyCap := 500, ratedRate := 100, feedTank := 0, meter := none } none .FED)
  ∧ (∀ (configured : Bool) (g : RudderCfg) (n : Option NodeRef), Rudder.fresh configured g n =
      { configured := configured, cfg := g, node := n, nodeAvailable := false, jam := false
        state := if configured = true then .LOST else .ABSENT, target := 0, commanded := 0, jamDeadline := none
        lastAngle := none }
    ∧ Rudder.por = Rudder.fresh false { station := .LEAD, kind := .MAIN, maxAngle := 350, slew := 40 } none)
  ∧ (∀ (used : Bool) (g : CouplingCfg) (n : Option NodeRef), Coupling.fresh used g n =
      { used := used, cfg := g, node := n, state := if used = true then .UNKNOWN else .UNUSED, nodeAvailable := false
        command := .BRAKE, lastTension := none, lastDrum := none, reportAt := none, freshness := none, deadline := none
        overloads := 0, peak := 0 }
    ∧ Coupling.por = Coupling.fresh false
      { kind := .FACE, slackLevel := 20, target := 120, band := 15, strainLevel := 250, recoveryLevel := 180
        renderLevel := 350, autoTend := false } none)
  ∧ ∀ (p : Port) (tag : Byte) (s : State), Ready p s → s.running = false →
    (∀ (i : Fin 8) (g : EngineCfg) (c : EngineParams), g.InRange →
      exec (.writeEngine p tag (BitVec.ofNat 8 i.val) 1 g.params) s = .next
        ((((holderNotice p s).setEngine i (Engine.fresh true g s.engines[i].node .FED)).postIf
          (decide (s.engines[i].state ≠ .LOST)) .ENGINE_CHANGED).reply p tag .DONE [])
      ∧ exec (.writeEngine p tag (BitVec.ofNat 8 i.val) 0 c) s = .next
        ((((holderNotice p s).setEngine i Engine.por).postIf (decide (s.engines[i].state ≠ .ABSENT)) .ENGINE_CHANGED).reply
          p tag .DONE []))
    ∧ (∀ (i : Fin 8) (g : RudderCfg) (c : RudderParams), g.InRange →
      exec (.writeRudder p tag (BitVec.ofNat 8 i.val) 1 g.params) s = .next
        ((((holderNotice p s).setRudder i (Rudder.fresh true g s.rudders[i].node)).postIf
          (decide (s.rudders[i].state ≠ .LOST)) .RUDDER_CHANGED).reply p tag .DONE [])
      ∧ exec (.writeRudder p tag (BitVec.ofNat 8 i.val) 0 c) s = .next
        ((((holderNotice p s).setRudder i Rudder.por).postIf (decide (s.rudders[i].state ≠ .ABSENT)) .RUDDER_CHANGED).reply
          p tag .DONE []))
    ∧ (∀ (i : Fin 24) (g : CouplingCfg) (c : CouplingParams), g.InRange →
      exec (.writeCoupling p tag (BitVec.ofNat 8 i.val) 1 g.params) s = .next
        ((((holderNotice p s).setCoupling i (Coupling.fresh true g s.couplings[i].node)).postIf
          (decide (s.couplings[i].state ≠ .UNKNOWN)) .COUPLING_CHANGED).reply p tag .DONE [])
      ∧ exec (.writeCoupling p tag (BitVec.ofNat 8 i.val) 0 c) s = .next
        ((((holderNotice p s).setCoupling i Coupling.por).postIf (decide (s.couplings[i].state ≠ .UNUSED))
          .COUPLING_CHANGED).reply p tag .DONE []))
    ∧ (∀ (i m : Byte) (e : EngineParams) (r : RudderParams) (k : CouplingParams),
      (8 ≤ i.toNat → exec (.writeEngine p tag i m e) s = .next ((holderNotice p s).reply p tag .BAD_INDEX [])
        ∧ exec (.writeRudder p tag i m r) s = .next ((holderNotice p s).reply p tag .BAD_INDEX []))
      ∧ (24 ≤ i.toNat → exec (.writeCoupling p tag i m k) s = .next ((holderNotice p s).reply p tag .BAD_INDEX []))
      ∧ (i.toNat < 8 → (2 ≤ m.toNat ∨ (m = 1 ∧ (3 ≤ e.station.toNat ∨ 2 ≤ e.axis.toNat ∨ 3 ≤ e.side.toNat
          ∨ e.weight.toNat < 1 ∨ 100 < e.weight.toNat ∨ e.idleRpm.toNat < 300 ∨ 1200 < e.idleRpm.toNat
          ∨ e.maxRpm.toNat < 400 ∨ 2500 < e.maxRpm.toNat ∨ e.upRamp.toNat < 10 ∨ 500 < e.upRamp.toNat
          ∨ e.downRamp.toNat < 10 ∨ 1000 < e.downRamp.toNat ∨ 1000 < e.asternLimit.toNat
          ∨ 1000 < e.economyCap.toNat ∨ e.ratedRate.toNat < 1 ∨ 2000 < e.ratedRate.toNat ∨ 8 ≤ e.feedTank.toNat
          ∨ 2 ≤ e.meter.presence.toNat ∨ (e.meter.presence = 1 ∧ 16 ≤ e.meter.value.toNat)))) →
        exec (.writeEngine p tag i m e) s = .next ((holderNotice p s).reply p tag .BAD_VALUE []))
      ∧ (i.toNat < 8 → (2 ≤ m.toNat ∨ (m = 1 ∧ (3 ≤ r.station.toNat ∨ 2 ≤ r.kind.toNat ∨ r.maxAngle.toNat < 100
          ∨ 450 < r.maxAngle.toNat ∨ r.slew.toNat < 10 ∨ 100 < r.slew.toNat))) →
        exec (.writeRudder p tag i m r) s = .next ((holderNotice p s).reply p tag .BAD_VALUE []))
      ∧ (i.toNat < 24 → (2 ≤ m.toNat ∨ (m = 1 ∧ (3 ≤ k.kind.toNat ∨ 2000 < k.slackLevel.toNat
          ∨ 2000 < k.target.toNat ∨ 1000 < k.band.toNat ∨ 2000 < k.strainLevel.toNat ∨ 2000 < k.recoveryLevel.toNat
          ∨ 2000 < k.renderLevel.toNat ∨ 2 ≤ k.autoTend.toNat))) →
        exec (.writeCoupling p tag i m k) s = .next ((holderNotice p s).reply p tag .BAD_VALUE [])))

/-- R105, R122, R156: WRITE_METER, WRITE_TANK and WRITE_NODE in CONFIGURING, in the same way; a tank that stays used
keeps its account, its flags and its state, and an absent hysteresis becomes capacity div 100. R103, R104, R120, R121,
R156: the run-time fields and the POR values, field by field. -/
def Obligations.WriteFuelTablesAndNodes : Prop :=
  (∀ (used : Bool) (g : MeterCfg) (n : Option NodeRef) (c : MeterChannel),
      c = { baseline := none, residue := 0, tempInvalid := false, last := none } → Meter.fresh used g n =
      { used := used, cfg := g, node := n, ch1 := c, ch2 := c, nodeAvailable := false, heard := false, excess := 0
        implausible := 0, stray := 0, estimating := false, estResidue := 0, heldRack := 0, rackHold := 0 })
  ∧ Meter.por = Meter.fresh false
      { kind := .ENGINE, engine := none, weight1 := 1, weight2 := 1, alpha := 800, limit := 1000 } none
  ∧ Tank.por = {
      used := false
      cfg := { station := .LEAD, capacity := 10000, high := 9000, low := 2000, reserve := 1000, empty := 200
               hysteresis := 100, fitted := false, source := .BOOK, limit := 100 }
      node := none
      account := { book := 0, opening := 0, received := 0, transferIn := 0, transferOut := 0, consumed := 0
                   saturated := false }
      sounding := none, soundingValid := false, state := none, discrepancy := false, discDeadline := none }
  ∧ (∀ (b : Bound) (a : Nat), NodeEntry.fresh b a =
      { bound := b, address := a, state := .UNHEARD, failures := 0, noise := 0, framing := 0, check := 0, timeout := 0
        stray := 0, lastReport := none })
  ∧ ∀ (p : Port) (tag : Byte) (s : State), Ready p s → s.running = false →
    (∀ (i : Fin 16) (g : MeterCfg) (c : MeterParams), g.InRange →
      exec (.writeMeter p tag (BitVec.ofNat 8 i.val) 1 g.params) s = .next
        (((holderNotice p s).setMeter i (Meter.fresh true g s.meters[i].node)).reply p tag .DONE [])
      ∧ exec (.writeMeter p tag (BitVec.ofNat 8 i.val) 0 c) s = .next
        (((holderNotice p s).setMeter i Meter.por).reply p tag .DONE []))
    ∧ (∀ (i : Fin 8) (g : TankCfg) (h : Option Nat) (c : TankParams), g.InRange → g.hysteresis = h.getD (g.capacity / 100) →
      exec (.writeTank p tag (BitVec.ofNat 8 i.val) 1 (g.params h)) s = .next
        (((holderNotice p s).setTank i { s.tanks[i] with
          used := true, cfg := g, sounding := none, soundingValid := false, discDeadline := none }).reply p tag .DONE [])
      ∧ exec (.writeTank p tag (BitVec.ofNat 8 i.val) 0 c) s = .next
        (((holderNotice p s).setTank i Tank.por).reply p tag .DONE []))
    ∧ (∀ (l : Line) (i : Fin 32) (b : Bound) (a : Nat) (c : NodeParams), 1 ≤ a → a ≤ 120 →
      exec (.writeNode p tag (BitVec.ofNat 8 l.ctorIdx) (BitVec.ofNat 8 i.val) 1 (nodeParams b a)) s = .next
        (((holderNotice p s).setLine l { s.line l with
          nodes := (s.line l).nodes.set i (some (NodeEntry.fresh b a)) }).reply p tag .DONE [])
      ∧ exec (.writeNode p tag (BitVec.ofNat 8 l.ctorIdx) (BitVec.ofNat 8 i.val) 0 c) s = .next
        (((holderNotice p s).setLine l { s.line l with nodes := (s.line l).nodes.set i none }).reply p tag .DONE []))
    ∧ (∀ (i j m : Byte) (e : MeterParams) (t : TankParams) (n : NodeParams),
      (16 ≤ i.toNat → exec (.writeMeter p tag i m e) s = .next ((holderNotice p s).reply p tag .BAD_INDEX []))
      ∧ (8 ≤ i.toNat → exec (.writeTank p tag i m t) s = .next ((holderNotice p s).reply p tag .BAD_INDEX []))
      ∧ ((2 ≤ i.toNat ∨ 32 ≤ j.toNat) → exec (.writeNode p tag i j m n) s =
        .next ((holderNotice p s).reply p tag .BAD_INDEX []))
      ∧ (i.toNat < 16 → (2 ≤ m.toNat ∨ (m = 1 ∧ (3 ≤ e.kind.toNat ∨ 2 ≤ e.engine.presence.toNat
          ∨ (e.engine.presence = 1 ∧ 8 ≤ e.engine.value.toNat) ∨ e.weight1.toNat < 1 ∨ 1000 < e.weight1.toNat
          ∨ e.weight2.toNat < 1 ∨ 1000 < e.weight2.toNat ∨ 2000 < e.alpha.toNat ∨ e.limit.toNat < 1))) →
        exec (.writeMeter p tag i m e) s = .next ((holderNotice p s).reply p tag .BAD_VALUE []))
      ∧ (i.toNat < 8 → (2 ≤ m.toNat ∨ (m = 1 ∧ (3 ≤ t.station.toNat ∨ t.capacity.toNat < 100
          ∨ 200000 < t.capacity.toNat ∨ 200000 < t.high.toNat ∨ 200000 < t.low.toNat ∨ 200000 < t.reserve.toNat
          ∨ 200000 < t.empty.toNat ∨ 2 ≤ t.hysteresis.presence.toNat
          ∨ (t.hysteresis.presence = 1 ∧ 20000 < t.hysteresis.value.toNat) ∨ 2 ≤ t.fitted.toNat ∨ 2 ≤ t.source.toNat
          ∨ t.limit.toNat < 1 ∨ 20000 < t.limit.toNat ∨ (t.source = 1 ∧ t.fitted = 0)))) →
        exec (.writeTank p tag i m t) s = .next ((holderNotice p s).reply p tag .BAD_VALUE []))
      ∧ (i.toNat < 2 → j.toNat < 32 → (2 ≤ m.toNat ∨ (m = 1 ∧ (n.address.toNat < 1 ∨ 120 < n.address.toNat
          ∨ 6 ≤ n.kind.toNat ∨ 2 ≤ n.bound.presence.toNat ∨ (n.kind.toNat < 5 ∧ n.bound.presence = 0)
          ∨ (n.kind = 5 ∧ n.bound.presence = 1)
          ∨ ((n.kind = 0 ∨ n.kind = 1 ∨ n.kind = 4) ∧ 8 ≤ n.bound.value.toNat ∧ n.bound.presence = 1)
          ∨ (n.kind = 2 ∧ 24 ≤ n.bound.value.toNat) ∨ (n.kind = 3 ∧ 16 ≤ n.bound.value.toNat)))) →
        exec (.writeNode p tag i j m n) s = .next ((holderNotice p s).reply p tag .BAD_VALUE [])))

/-! ## Engine sequencer -/

/-- R48, R52, R53: state, eligibility and caps from the conditions of a slot; what happens at once to a slot that becomes
ineligible; and the event of a state that changes. R54, R58: what a waiting pass result holds for a slot that becomes
ineligible is not applied, so that the slot receives share 0 from it. -/
def Obligations.EngineConditions : Prop :=
  (∀ (e : Engine) (latch : Bool),
    (e.rederive latch).state =
      (if e.configured = false then .ABSENT else if e.standby = true then .STANDBY
       else if e.nodeAvailable = false then .LOST else if e.fault ≠ none then .FAULTED
       else if e.feed = .EMPTY then .STARVED else if e.derate = true ∨ e.tracking = true then .DEGRADED else .ONLINE)
    ∧ ((e.rederive latch).eligible = true ↔
      ((e.rederive latch).state = .ONLINE ∨ (e.rederive latch).state = .DEGRADED) ∧ latch = false)
    ∧ (e.configured = false → (e.rederive latch).aheadCap = 0 ∧ (e.rederive latch).asternCap = 0)
    ∧ (∀ stateCap feedCap : Nat, e.configured = true →
      stateCap = (if (e.rederive latch).state = .ONLINE then 1000
        else if (e.rederive latch).state = .DEGRADED then 600 else 0) →
      feedCap = (if e.feed = .FED then 1000 else if e.feed = .RESERVE then e.cfg.economyCap else 0) →
      (e.rederive latch).aheadCap = min stateCap feedCap
      ∧ (e.rederive latch).asternCap = min e.cfg.asternLimit (min stateCap feedCap))
    ∧ e.rederive latch = { e with
        state := (e.rederive latch).state, eligible := (e.rederive latch).eligible
        aheadCap := (e.rederive latch).aheadCap, asternCap := (e.rederive latch).asternCap })
  ∧ (∀ (e : Engine) (latch : Bool) (dwell : Nat), e.settle latch dwell =
      if e.eligible = true ∧ (e.rederive latch).eligible = false then { e.rederive latch with
        gear := .NEUTRAL, rpm := e.cfg.idleRpm, dwell := some dwell, confirm := none, trackDeadline := none
        confirmed := false }
      else e.rederive latch)
  ∧ ∀ (s t : State) (i : Fin 8) (f : Engine → Engine) (e : Engine),
    e = (f s.engines[i]).settle (s.tripLatch.get (f s.engines[i]).cfg.station) (s.now + ms s.params.gearDwell) →
    t = { s with
      engines := s.engines.set i e
      engineResult := if s.engines[i].eligible = true ∧ e.eligible = false
        then s.engineResult.map fun shares => shares.set i 0 else s.engineResult } →
    s.updateEngine i f = if e.state = s.engines[i].state then t else t.post .ENGINE_CHANGED

/-- R56, R57: SET_STANDBY sets the flag of a configured slot; REINSTATE clears it, and a set latch with it where the last
report shows NONE or WARNING and the commanded gear; else NOT_READY. An ABSENT slot is refused BAD_VALUE. -/
def Obligations.StandbyAndReinstate : Prop :=
  ∀ (p : Port) (b : Bridge) (tag : Byte) (s : State), Ready p s → HoldsHelm p b s →
    (∀ i : Fin 8, s.engines[i].configured = true →
      exec (.setStandby p tag (BitVec.ofNat 8 i.val)) s = .next
        ((s.heard.updateEngine i fun e => { e with standby := true }).reply p tag .DONE [])
      ∧ (s.engines[i].fault = none → s.engines[i].tracking = false →
        exec (.reinstate p tag (BitVec.ofNat 8 i.val)) s = .next
          ((s.heard.updateEngine i fun e => { e with standby := false }).reply p tag .DONE []))
      ∧ (¬(s.engines[i].fault = none ∧ s.engines[i].tracking = false) →
        ((∃ r, s.engines[i].lastReport = some r ∧ (r.fault = .NONE ∨ r.fault = .WARNING) ∧ r.gear = s.engines[i].gear) →
          exec (.reinstate p tag (BitVec.ofNat 8 i.val)) s = .next
            ((s.heard.updateEngine i fun e => { e with standby := false, fault := none, tracking := false }).reply
              p tag .DONE []))
        ∧ (¬(∃ r, s.engines[i].lastReport = some r ∧ (r.fault = .NONE ∨ r.fault = .WARNING)
              ∧ r.gear = s.engines[i].gear) →
          exec (.reinstate p tag (BitVec.ofNat 8 i.val)) s = .next (s.heard.reply p tag .NOT_READY []))))
    ∧ (∀ i : Fin 8, s.engines[i].configured = false →
      exec (.setStandby p tag (BitVec.ofNat 8 i.val)) s = .next (s.heard.reply p tag .BAD_VALUE [])
      ∧ exec (.reinstate p tag (BitVec.ofNat 8 i.val)) s = .next (s.heard.reply p tag .BAD_VALUE []))
    ∧ ∀ slot : Byte, 8 ≤ slot.toNat →
      exec (.setStandby p tag slot) s = .next (s.heard.reply p tag .BAD_INDEX [])
      ∧ exec (.reinstate p tag slot) s = .next (s.heard.reply p tag .BAD_INDEX [])

/-- R54, R55, R53 (log 18): a trip line asserted in RUNNING with the latch clear takes every configured engine of the
station to NEUTRAL at idle with a fresh dwell, and takes from a waiting pass result its shares for them (R58); with the
latch set, and in CONFIGURING, nothing but the level as seen changes. CLEAR_TRIP with the line deasserted clears the
latch, and with it asserted is answered STILL_ASSERTED. The trip lines as operands, and their sampled levels kept, are
log 6. -/
def Obligations.Trips : Prop :=
  (∀ (st : Station) (s : State), s.inReset = false →
    (s.running = true → s.tripLatch.get st = false → exec (.tripLineAsserted st) s = .next
      (State.post .STATION_TRIPPED { s with
        levels := { s.levels with trip := s.levels.trip.set st true }
        tripLatch := s.tripLatch.set st true
        engineResult := s.engineResult.map fun shares : Vector Int 8 => Vector.ofFn fun i : Fin 8 =>
          if s.engines[i].configured = true ∧ s.engines[i].cfg.station = st then 0 else shares[i]
        engines := Vector.ofFn fun i : Fin 8 =>
          if s.engines[i].configured = true ∧ s.engines[i].cfg.station = st then { s.engines[i].rederive true with
            gear := .NEUTRAL, rpm := s.engines[i].cfg.idleRpm, dwell := some (s.now + ms s.params.gearDwell)
            confirm := none, trackDeadline := none, confirmed := false }
          else s.engines[i] }))
    ∧ ((s.running = false ∨ s.tripLatch.get st = true) → exec (.tripLineAsserted st) s = .next { s with
        levels := { s.levels with trip := s.levels.trip.set st true } }))
  ∧ ∀ (p : Port) (b : Bridge) (tag : Byte) (lines : PerStation Bool) (s : State), Ready p s → HoldsHelm p b s →
    (∀ st : Station, lines.get st = false →
      exec (.clearTrip p tag (BitVec.ofNat 8 st.ctorIdx) lines) s = .next (({ s.heard with
        levels := { s.levels with trip := s.levels.trip.set st false }
        tripLatch := s.tripLatch.set st false
        engines := Vector.ofFn fun i : Fin 8 =>
          if s.engines[i].configured = true ∧ s.engines[i].cfg.station = st then s.engines[i].rederive false
          else s.engines[i] }).reply p tag .DONE []))
    ∧ (∀ st : Station, lines.get st = true →
      exec (.clearTrip p tag (BitVec.ofNat 8 st.ctorIdx) lines) s = .next (({ s.heard with
        levels := { s.levels with trip := s.levels.trip.set st true } }).reply p tag .STILL_ASSERTED []))
    ∧ ∀ station : Byte, 3 ≤ station.toNat →
      exec (.clearTrip p tag station lines) s = .next (s.heard.reply p tag .BAD_VALUE [])

/-- R49, R50: a report of a configured slot is stored, its fault class acted on, and the two monitors look at it; a
change of node state sets node available. For an ABSENT slot the hand-over is taken and nothing else happens (log 10).
R62, R63, R64: what a report does to the gear confirm and the tracking deadlines of a slot, and what the expiry of each
deadline of a slot does, moving the clock to its moment (log 3); an absent deadline does not expire. -/
def Obligations.EngineReportsTaken : Prop :=
  (∀ (i : Fin 8) (r : EngineReport) (st : NodeState) (s t : State), Running s →
      (s.engines[i].configured = true →
        t = (s.takeHandover (.engineReportTaken i r)).updateEngine i (fun e => { e with
          lastReport := some r
          reportAt := some s.now
          derate := decide (r.fault = .DERATE)
          fault := if r.fault = .SHUTDOWN ∧ e.fault = none then some .SHUTDOWN else e.fault }) →
        exec (.engineReportTaken i r) s = .next { t with
          engines := t.engines.set i
            ((t.engines[i].confirmMonitor (s.now + ms 4000) r).trackMonitor s.params.trackingBand (s.now + ms 10000) r) })
      ∧ (s.engines[i].configured = true → exec (.engineNodeStateTaken i st) s = .next
        ((s.takeHandover (.engineNodeStateTaken i st)).updateEngine i fun e => { e with
          nodeAvailable := decide ((st = .ONLINE ∨ st = .SUSPECT) ∧ e.node ≠ none) }))
      ∧ (s.engines[i].configured = false →
        exec (.engineReportTaken i r) s = .next (s.takeHandover (.engineReportTaken i r))
        ∧ exec (.engineNodeStateTaken i st) s = .next (s.takeHandover (.engineNodeStateTaken i st))))
  ∧ ((∀ (e : Engine) (r : EngineReport) (until_ : Nat),
        (e.gear = .NEUTRAL → e.confirmMonitor until_ r = e)
        ∧ (e.gear ≠ .NEUTRAL → e.confirm ≠ none → r.gear = e.gear →
          e.confirmMonitor until_ r = { e with confirm := none, confirmed := true })
        ∧ (e.gear ≠ .NEUTRAL → e.confirm ≠ none → r.gear ≠ e.gear → e.confirmMonitor until_ r = e)
        ∧ (e.gear ≠ .NEUTRAL → e.confirm = none → e.confirmed = true → r.gear ≠ e.gear →
          e.confirmMonitor until_ r = { e with confirmed := false, confirm := some until_, trackDeadline := none })
        ∧ (e.gear ≠ .NEUTRAL → e.confirm = none → (e.confirmed = false ∨ r.gear = e.gear) → e.confirmMonitor until_ r = e))
      ∧ (∀ (e : Engine) (r : EngineReport) (band until_ : Nat),
        ((e.gear = .NEUTRAL ∨ e.confirmed = false) → e.trackMonitor band until_ r = e)
        ∧ (e.gear ≠ .NEUTRAL → e.confirmed = true → ((r.rpm : Int) - e.rpm).natAbs ≤ band →
          e.trackMonitor band until_ r = { e with trackDeadline := none })
        ∧ (e.gear ≠ .NEUTRAL → e.confirmed = true → band < ((r.rpm : Int) - e.rpm).natAbs →
          e.trackMonitor band until_ r = { e with trackDeadline := some (e.trackDeadline.getD until_) }))
      ∧ (∀ (i : Fin 8) (d : Nat) (s : State), s.inReset = false →
        (s.engines[i].dwell = some d → exec (.dwellDeadlineExpiry i) s = .next { s with
          now := max s.now d, engines := s.engines.set i { s.engines[i] with dwell := none } })
        ∧ (s.engines[i].confirm = some d → exec (.gearConfirmExpiry i) s = .next
          (({ s with now := max s.now d }).updateEngine i fun e => { e with
            confirm := none, fault := if e.fault = none then some .GEAR_MISMATCH else e.fault }))
        ∧ (s.engines[i].trackDeadline = some d → exec (.trackingDeadlineExpiry i) s = .next
          (({ s with now := max s.now d }).updateEngine i fun e => { e with trackDeadline := none, tracking := true })))
      ∧ ∀ (i : Fin 8) (s : State),
        (s.engines[i].dwell = none → exec (.dwellDeadlineExpiry i) s = .next s)
        ∧ (s.engines[i].confirm = none → exec (.gearConfirmExpiry i) s = .next s)
        ∧ (s.engines[i].trackDeadline = none → exec (.trackingDeadlineExpiry i) s = .next s))

/-- R58 to R61: a pass result taken moves each configured and eligible slot one step toward its share's target gear and
rpm, and leaves every other slot as it is. (A slot that has lost and regained its eligibility since the pass's read
holds share 0 in the waiting result: EngineConditions, Trips.) -/
def Obligations.SharesMoveSetpoints : Prop :=
  (∀ (shares : Vector Int 8) (s : State), s.inReset = false → s.engineResult = some shares →
    exec .passResultTakenEngines s = .next { s with
      engineResult := none
      engines := Vector.ofFn fun i : Fin 8 =>
        if s.engines[i].configured = true ∧ s.engines[i].eligible = true then
          s.engines[i].applyShare (s.now + ms s.params.gearDwell) (s.now + ms 4000) shares[i]
        else s.engines[i] })
  ∧ (∀ s : State, s.engineResult = none → exec .passResultTakenEngines s = .next s)
  ∧ ∀ (e : Engine) (dwell confirm target : Nat) (share : Int) (g : Gear),
    g = (if 0 < share then .AHEAD else if share < 0 then .ASTERN else .NEUTRAL) →
    target = e.cfg.idleRpm + (e.cfg.maxRpm - e.cfg.idleRpm) * share.natAbs / 1000 →
    (e.gear ≠ .NEUTRAL → g = e.gear → e.rpm < target →
      e.applyShare dwell confirm share = { e with rpm := min target (e.rpm + max 1 (e.cfg.upRamp / 10)) })
    ∧ (e.gear ≠ .NEUTRAL → g = e.gear → target ≤ e.rpm →
      e.applyShare dwell confirm share = { e with rpm := max target (e.rpm - max 1 (e.cfg.downRamp / 10)) })
    ∧ (e.gear ≠ .NEUTRAL → g ≠ e.gear → e.cfg.idleRpm < e.rpm - max 1 (e.cfg.downRamp / 10) →
      e.applyShare dwell confirm share = { e with rpm := e.rpm - max 1 (e.cfg.downRamp / 10) })
    ∧ (e.gear ≠ .NEUTRAL → g ≠ e.gear → e.rpm - max 1 (e.cfg.downRamp / 10) ≤ e.cfg.idleRpm →
      e.applyShare dwell confirm share = { e with
        gear := .NEUTRAL, rpm := e.cfg.idleRpm, dwell := some dwell, confirm := none, trackDeadline := none
        confirmed := false })
    ∧ (e.gear = .NEUTRAL → g = .NEUTRAL → e.applyShare dwell confirm share = e)
    ∧ (∀ x, e.gear = .NEUTRAL → g = .AHEAD ∧ x = .AHEAD ∨ g = .ASTERN ∧ x = .ASTERN →
      ((e.lastGear = none ∨ e.lastGear = some x ∨ e.dwell = none) → e.applyShare dwell confirm share = { e with
        gear := g, lastGear := some x, confirm := some confirm, confirmed := false })
      ∧ (¬(e.lastGear = none ∨ e.lastGear = some x ∨ e.dwell = none) → e.applyShare dwell confirm share = e))

/-- R60, R61: whatever a step does, a gear does not change directly between AHEAD and ASTERN; an engaged gear is left at
idle; and a gear is engaged only where no other was engaged last or no dwell runs. -/
def Obligations.NoDirectReversal : Prop :=
  ∀ (s t : State) (i : Fin 8), step s = .next t →
    (s.engines[i].gear = .AHEAD → t.engines[i].gear ≠ .ASTERN)
    ∧ (s.engines[i].gear = .ASTERN → t.engines[i].gear ≠ .AHEAD)
    ∧ (s.engines[i].gear ≠ .NEUTRAL → t.engines[i].gear = .NEUTRAL → t.engines[i].rpm = t.engines[i].cfg.idleRpm)
    ∧ (s.engines[i].gear = .NEUTRAL → t.engines[i].gear = .AHEAD →
      s.engines[i].lastGear ≠ some .ASTERN ∨ s.engines[i].dwell = none)
    ∧ (s.engines[i].gear = .NEUTRAL → t.engines[i].gear = .ASTERN →
      s.engines[i].lastGear ≠ some .AHEAD ∨ s.engines[i].dwell = none)

/-! ## Rudder controller -/

/-- R70, R78: CLEAR_RUDDER_FAULT clears the jam of a rudder that follows again; one that does not is answered NOT_READY,
one that is not jammed DONE, an ABSENT one BAD_VALUE. R71 to R73: a report stored and, while ONLINE, compared with the
commanded angle; a change of node state; and the jam deadline's expiry, which moves the clock to its moment (log 3). For
an ABSENT slot the hand-over is taken and nothing else happens (log 10). -/
def Obligations.RudderFaultsAndReports : Prop :=
  ((∀ (p : Port) (b : Bridge) (tag : Byte) (s : State), Ready p s → HoldsHelm p b s →
      (∀ i : Fin 8, s.rudders[i].configured = true → s.rudders[i].jam = true →
        ((s.rudders[i].nodeAvailable = true ∧
            ∃ a, s.rudders[i].lastAngle = some a ∧ (a - s.rudders[i].commanded).natAbs ≤ 50) →
          exec (.clearRudderFault p tag (BitVec.ofNat 8 i.val)) s = .next
            ((s.heard.updateRudder i fun r => { r with jam := false, jamDeadline := none }).reply p tag .DONE []))
        ∧ (¬(s.rudders[i].nodeAvailable = true ∧
            ∃ a, s.rudders[i].lastAngle = some a ∧ (a - s.rudders[i].commanded).natAbs ≤ 50) →
          exec (.clearRudderFault p tag (BitVec.ofNat 8 i.val)) s = .next (s.heard.reply p tag .NOT_READY [])))
      ∧ (∀ i : Fin 8, s.rudders[i].configured = true → s.rudders[i].jam = false →
        exec (.clearRudderFault p tag (BitVec.ofNat 8 i.val)) s = .next (s.heard.reply p tag .DONE []))
      ∧ (∀ i : Fin 8, s.rudders[i].configured = false →
        exec (.clearRudderFault p tag (BitVec.ofNat 8 i.val)) s = .next (s.heard.reply p tag .BAD_VALUE []))
      ∧ ∀ slot : Byte, 8 ≤ slot.toNat →
        exec (.clearRudderFault p tag slot) s = .next (s.heard.reply p tag .BAD_INDEX []))
    ∧ ∀ (s : State) (i : Fin 8) (f : Rudder → Rudder) (r : Rudder),
      r = { f s.rudders[i] with state :=
        if (f s.rudders[i]).configured = false then .ABSENT else if (f s.rudders[i]).jam = true then .JAMMED
        else if (f s.rudders[i]).nodeAvailable = false then .LOST else .ONLINE } →
      s.updateRudder i f =
        if r.state = s.rudders[i].state then { s with rudders := s.rudders.set i r }
        else State.post .RUDDER_CHANGED { s with rudders := s.rudders.set i r })
  ∧ ((∀ (i : Fin 8) (a : Int) (st : NodeState) (s : State), Running s → s.rudders[i].configured = true →
        (s.rudders[i].state ≠ .ONLINE → exec (.rudderReportTaken i a) s = .next
          { s.takeHandover (.rudderReportTaken i a) with
            rudders := s.rudders.set i { s.rudders[i] with lastAngle := some a } })
        ∧ (s.rudders[i].state = .ONLINE → (a - s.rudders[i].commanded).natAbs ≤ 50 →
          exec (.rudderReportTaken i a) s = .next { s.takeHandover (.rudderReportTaken i a) with
            rudders := s.rudders.set i { s.rudders[i] with lastAngle := some a, jamDeadline := none } })
        ∧ (s.rudders[i].state = .ONLINE → 50 < (a - s.rudders[i].commanded).natAbs →
          exec (.rudderReportTaken i a) s = .next { s.takeHandover (.rudderReportTaken i a) with
            rudders := s.rudders.set i { s.rudders[i] with
              lastAngle := some a, jamDeadline := some (s.rudders[i].jamDeadline.getD (s.now + ms 3000)) } })
        ∧ ((st = .ONLINE ∨ st = .SUSPECT) → exec (.rudderNodeStateTaken i st) s = .next
          ((s.takeHandover (.rudderNodeStateTaken i st)).updateRudder i fun r => { r with nodeAvailable := true }))
        ∧ ((st = .UNHEARD ∨ st = .OFFLINE) → exec (.rudderNodeStateTaken i st) s = .next
          ((s.takeHandover (.rudderNodeStateTaken i st)).updateRudder i fun r => { r with
            nodeAvailable := false, jamDeadline := none })))
      ∧ (∀ (i : Fin 8) (a : Int) (st : NodeState) (s : State), Running s → s.rudders[i].configured = false →
        exec (.rudderReportTaken i a) s = .next (s.takeHandover (.rudderReportTaken i a))
        ∧ exec (.rudderNodeStateTaken i st) s = .next (s.takeHandover (.rudderNodeStateTaken i st)))
      ∧ (∀ (i : Fin 8) (d : Nat) (s : State), s.inReset = false → s.rudders[i].jamDeadline = some d →
        exec (.jamDeadlineExpiry i) s = .next
          (({ s with now := max s.now d }).updateRudder i fun r => { r with jam := true, jamDeadline := none }))
      ∧ ∀ (i : Fin 8) (s : State), s.rudders[i].jamDeadline = none → exec (.jamDeadlineExpiry i) s = .next s)

/-- R74 to R77: a pass result taken by the rudder controller sets the station view, gives every configured rudder its
target, and moves the commanded angle of each that is ONLINE by at most one step. -/
def Obligations.RuddersFollow : Prop :=
  (∀ (x : RudderResult) (s : State) (backing : PerStation Bool), s.inReset = false → s.rudderResult = some x →
    backing = { lead := s.backing .LEAD, helper := s.backing .HELPER, bow := s.backing .BOW } →
    exec .passResultTakenRudders s = .next { s with
      rudderResult := none
      steering := { backing := backing, gains := x.gains, uLim := x.uLim, mode := x.mode, passNumber := x.passNumber }
      rudders := Vector.ofFn fun i : Fin 8 =>
        if s.rudders[i].configured = true then
          s.rudders[i].applyResult x.mode (backing.get s.rudders[i].cfg.station) x.uLim
        else s.rudders[i] })
  ∧ (∀ s : State, s.rudderResult = none → exec .passResultTakenRudders s = .next s)
  ∧ (∀ (s : State) (st : Station), s.backing st = true ↔ ∃ i : Fin 8, s.engines[i].configured = true
      ∧ s.engines[i].cfg.axis = .AHEAD ∧ s.engines[i].cfg.station = st ∧ s.engines[i].gear = .ASTERN)
  ∧ ∀ (r : Rudder) (mode : Mode) (backing : Bool) (uLim target : Int) (step : Nat),
    target = (if mode = .STOP then 0
      else if r.cfg.kind = .MAIN ∧ backing = false then (uLim * r.cfg.maxAngle).tdiv 1000
      else if r.cfg.kind = .FLANKING ∧ backing = true then (-uLim * r.cfg.maxAngle).tdiv 1000 else 0) →
    step = max 1 (r.cfg.slew / 10) →
    (r.state ≠ .ONLINE → r.applyResult mode backing uLim = { r with target := target })
    ∧ (r.state = .ONLINE → (target - r.commanded).natAbs ≤ step →
      r.applyResult mode backing uLim = { r with target := target, commanded := target })
    ∧ (r.state = .ONLINE → r.commanded + step < target →
      r.applyResult mode backing uLim = { r with target := target, commanded := r.commanded + step })
    ∧ (r.state = .ONLINE → target < r.commanded - step →
      r.applyResult mode backing uLim = { r with target := target, commanded := r.commanded - step })

/-! ## Coupling supervisor -/

/-- R85, R98, R99, R100: what a change of state sets and posts, and the ceilings computed from the states of all couplings
just after it. -/
def Obligations.CouplingStateChange : Prop :=
  (∀ (s : State) (i : Fin 24) (c d : Coupling) (st : CouplingState) (t : State),
    d = { c with
      state := st
      command := if st = .MAKING_UP then .HEAVE else if st = .RENDERING then .RENDER
        else if st = .RELEASING ∨ st = .RELEASED then .RELEASE else .BRAKE
      deadline := if st = .MAKING_UP then some { kind := .heave, time := s.now + ms 60000 }
        else if st = .RELEASING then some { kind := .release, time := s.now + ms 30000 } else none
      overloads := if st = .RENDERING then min 65535 (c.overloads + 1) else c.overloads } →
    t = State.post .COUPLING_CHANGED { s with couplings := s.couplings.set i d } →
    s.enterCoupling i c st = if st = .RENDERING then (t.post .COUPLING_OVERLOAD).publishCeilings else t.publishCeilings)
  ∧ (∀ s : State, s.publishCeilings =
      if s.ceilingsNow = s.ceilings then s else State.post .CEILING_CHANGED { s with ceilings := s.ceilingsNow })
  ∧ (∀ s : State,
    (s.ceilingsNow.c ≤ 1000 ∧ (∀ (i : Fin 24) (f : Nat), s.couplings[i].thrust s.params = some f → s.ceilingsNow.c ≤ f)
      ∧ (s.ceilingsNow.c ≠ 1000 → ∃ i : Fin 24, s.couplings[i].thrust s.params = some s.ceilingsNow.c))
    ∧ s.ceilingsNow.k ≤ 1000 ∧ (∀ (i : Fin 24) (f : Nat), s.couplings[i].turn = some f → s.ceilingsNow.k ≤ f)
      ∧ (s.ceilingsNow.k ≠ 1000 → ∃ i : Fin 24, s.couplings[i].turn = some s.ceilingsNow.k))
  ∧ ∀ (c : Coupling) (p : Params),
    c.thrust p = (if c.used = false ∨ c.cfg.kind = .LATERAL ∨ c.state = .UNUSED then none
      else if c.state = .MADE_UP then some 1000 else if c.state = .STRAINED then some p.strainFactor
      else if c.state = .RENDERING then some 300 else if c.state = .SLACK ∨ c.state = .MAKING_UP then some 400
      else if c.state = .UNKNOWN ∨ c.state = .WINCH_FAULT then some 500 else some p.releaseThreshold)
    ∧ c.turn = (if c.used = false ∨ c.cfg.kind = .FORE_AFT ∨ c.state = .UNUSED then none
      else if c.state = .MADE_UP then some 1000 else if c.state = .STRAINED then some 600
      else if c.state = .RENDERING then some 300 else if c.state = .SLACK ∨ c.state = .MAKING_UP then some 700
      else some 500)

/-- R89, R90, R93, R96: what MAKE_UP, RELEASE_COUPLING and RESET_COUPLING of the holder do to a used entry, by its state.
R95, R83: SET_TENSION clamps the band, then the target with the clamped band, and answers CLAMPED where either moved; an
entry whose levels stand in order keeps them so. -/
def Obligations.CouplingRequests : Prop :=
  (∀ (p : Port) (b : Bridge) (tag : Byte) (s : State), Ready p s → HoldsHelm p b s →
      (∀ (i : Fin 24) (c : Coupling), c = s.couplings[i] → c.used = true →
        ((c.state = .SLACK ∨ c.state = .RELEASED ∨ c.state = .MADE_UP) →
          exec (.makeUp p tag (BitVec.ofNat 8 i.val)) s = .next ((s.heard.enterCoupling i c .MAKING_UP).reply p tag .DONE []))
        ∧ (c.state = .MAKING_UP →
          exec (.makeUp p tag (BitVec.ofNat 8 i.val)) s = .next (s.heard.reply p tag .DONE []))
        ∧ ((c.state = .UNKNOWN ∨ c.state = .STRAINED ∨ c.state = .RENDERING ∨ c.state = .RELEASING
            ∨ c.state = .WINCH_FAULT) →
          exec (.makeUp p tag (BitVec.ofNat 8 i.val)) s = .next (s.heard.reply p tag .NOT_READY []))
        ∧ ((c.state = .RELEASING ∨ c.state = .RELEASED) →
          exec (.releaseCoupling p tag (BitVec.ofNat 8 i.val)) s = .next (s.heard.reply p tag .DONE []))
        ∧ (c.state ≠ .RELEASING → c.state ≠ .RELEASED →
          (c.nodeAvailable = false →
            exec (.releaseCoupling p tag (BitVec.ofNat 8 i.val)) s = .next (s.heard.reply p tag .NODE_UNAVAILABLE []))
          ∧ (c.nodeAvailable = true →
            s.params.releaseThreshold < (if c.cfg.kind = .LATERAL then s.alloc.uLim else s.alloc.tLim).natAbs →
            exec (.releaseCoupling p tag (BitVec.ofNat 8 i.val)) s = .next (s.heard.reply p tag .UNSAFE []))
          ∧ (c.nodeAvailable = true →
            (if c.cfg.kind = .LATERAL then s.alloc.uLim else s.alloc.tLim).natAbs ≤ s.params.releaseThreshold →
            exec (.releaseCoupling p tag (BitVec.ofNat 8 i.val)) s = .next
              ((s.heard.enterCoupling i c .RELEASING).reply p tag .DONE [])))
        ∧ (c.state = .WINCH_FAULT → exec (.resetCoupling p tag (BitVec.ofNat 8 i.val)) s = .next
          ((s.heard.enterCoupling i c .UNKNOWN).reply p tag .DONE []))
        ∧ (c.state ≠ .WINCH_FAULT →
          exec (.resetCoupling p tag (BitVec.ofNat 8 i.val)) s = .next (s.heard.reply p tag .DONE [])))
      ∧ ∀ (index : Byte) (target band : Half) (c : Instr),
        (c = .makeUp p tag index ∨ c = .releaseCoupling p tag index ∨ c = .resetCoupling p tag index
          ∨ c = .setTension p tag index target band) →
        (24 ≤ index.toNat → exec c s = .next (s.heard.reply p tag .BAD_INDEX []))
        ∧ ∀ i : Fin 24, index = BitVec.ofNat 8 i.val → s.couplings[i].used = false →
          exec c s = .next (s.heard.reply p tag .BAD_VALUE []))
  ∧ ((∀ (p : Port) (b : Bridge) (tag : Byte) (i : Fin 24) (target band : Half) (s : State) (g : CouplingCfg) (bd tg : Nat),
        Ready p s → HoldsHelm p b s → s.couplings[i].used = true → g = s.couplings[i].cfg →
        bd = min ((g.strainLevel - g.slackLevel - 2) / 2) (min (g.recoveryLevel - g.slackLevel - 1) band.toNat) →
        tg = max (g.slackLevel + 1 + bd) (min (min (g.strainLevel - 1 - bd) g.recoveryLevel) target.toNat) →
        exec (.setTension p tag (BitVec.ofNat 8 i.val) target band) s = .next (({ s.heard with
          couplings := s.couplings.set i { s.couplings[i] with cfg := { g with target := tg, band := bd } } }).reply p tag
            (if tg = target.toNat ∧ bd = band.toNat then .DONE else .CLAMPED) []))
      ∧ ∀ (g : CouplingCfg) (band target : Nat),
        (g.slackLevel + g.band < g.target ∧ g.target + g.band < g.strainLevel ∧ g.strainLevel < g.renderLevel
          ∧ g.target ≤ g.recoveryLevel ∧ g.recoveryLevel < g.strainLevel) →
        g.slackLevel + g.clampBand band < g.clampTarget (g.clampBand band) target
        ∧ g.clampTarget (g.clampBand band) target + g.clampBand band < g.strainLevel
        ∧ g.clampTarget (g.clampBand band) target ≤ g.recoveryLevel)

/-- R86, R88, R90 to R92, R94, R97: a winch report of a used entry is stored, the peak raised, the freshness deadline
started, and the state decided from the state it finds; a MADE_UP coupling that stays is watched for slack. -/
def Obligations.WinchReportsTaken : Prop :=
  (∀ (i : Fin 24) (r : WinchReport) (s t : State) (c : Coupling), Running s → s.couplings[i].used = true →
    t = s.takeHandover (.winchReportTaken i r) →
    c = { s.couplings[i] with
      lastTension := some r.tension, lastDrum := some r.drum, reportAt := some s.now
      peak := max s.couplings[i].peak r.tension, freshness := some (s.now + ms 2000) } →
    (∀ st, reportedState c.cfg r c.state = some st → exec (.winchReportTaken i r) s = .next (t.enterCoupling i c st))
    ∧ (reportedState c.cfg r c.state = none →
      (c.state = .MADE_UP → r.tension < c.cfg.slackLevel → exec (.winchReportTaken i r) s = .next { t with
        couplings := s.couplings.set i { c with
          deadline := some (c.deadline.getD { kind := .slackDwell, time := s.now + ms 10000 }) } })
      ∧ (c.state = .MADE_UP → c.cfg.slackLevel ≤ r.tension → exec (.winchReportTaken i r) s = .next { t with
        couplings := s.couplings.set i { c with
          deadline := if (c.deadlineOf .slackDwell).isSome then none else c.deadline } })
      ∧ (c.state ≠ .MADE_UP → exec (.winchReportTaken i r) s = .next { t with couplings := s.couplings.set i c })))
  ∧ ∀ (g : CouplingCfg) (r : WinchReport) (x y z : Option CouplingState),
    x = (if r.drum = .FAULT then some .WINCH_FAULT else none) →
    y = (if r.drum = .FAULT then some .WINCH_FAULT else if g.renderLevel ≤ r.tension then some .RENDERING
      else if g.target ≤ r.tension + g.band then some .MADE_UP else none) →
    z = (if r.drum = .FAULT then some .WINCH_FAULT else if r.tension ≤ g.recoveryLevel then some .MADE_UP else none) →
    reportedState g r .UNUSED = none ∧ reportedState g r .WINCH_FAULT = none
    ∧ reportedState g r .RELEASED = x ∧ reportedState g r .SLACK = y ∧ reportedState g r .MAKING_UP = y
    ∧ reportedState g r .RENDERING = z
    ∧ reportedState g r .RELEASING =
      (if r.drum = .FAULT then some .WINCH_FAULT else if r.drum = .RELEASED then some .RELEASED else none)
    ∧ reportedState g r .STRAINED = (if r.drum ≠ .FAULT ∧ g.renderLevel ≤ r.tension then some .RENDERING else z)
    ∧ reportedState g r .MADE_UP = (if r.drum = .FAULT then some .WINCH_FAULT
      else if g.renderLevel ≤ r.tension then some .RENDERING
      else if g.strainLevel ≤ r.tension then some .STRAINED else none)
    ∧ reportedState g r .UNKNOWN = (if r.drum = .FAULT then some .WINCH_FAULT
      else if r.drum = .RELEASED then some .RELEASED else if r.tension < g.slackLevel then some .SLACK
      else if r.tension < g.strainLevel then some .MADE_UP
      else if r.tension < g.renderLevel then some .STRAINED else some .RENDERING)

/-- R87, R92, R94, R97: a used coupling that cannot be watched falls to UNKNOWN; what the expiry of its freshness deadline
and of each state deadline does, moving the clock to its moment (log 3); an absent deadline does not expire. For an UNUSED
entry the hand-over is taken and nothing else happens (log 10). -/
def Obligations.CouplingLosses : Prop :=
  (∀ (i : Fin 24) (st : NodeState) (s t : State) (c : Coupling), Running s → s.couplings[i].used = true →
    t = s.takeHandover (.winchNodeStateTaken i st) →
    c = { s.couplings[i] with nodeAvailable := decide (st = .ONLINE ∨ st = .SUSPECT) } →
    ((c.nodeAvailable = true ∨ c.state = .UNUSED ∨ c.state = .UNKNOWN ∨ c.state = .WINCH_FAULT) →
      exec (.winchNodeStateTaken i st) s = .next { t with couplings := s.couplings.set i c })
    ∧ (c.nodeAvailable = false → c.state ≠ .UNUSED → c.state ≠ .UNKNOWN → c.state ≠ .WINCH_FAULT →
      exec (.winchNodeStateTaken i st) s = .next (t.enterCoupling i { c with freshness := none } .UNKNOWN)))
  ∧ (∀ (i : Fin 24) (r : WinchReport) (st : NodeState) (s : State), Running s → s.couplings[i].used = false →
    exec (.winchReportTaken i r) s = .next (s.takeHandover (.winchReportTaken i r))
    ∧ exec (.winchNodeStateTaken i st) s = .next (s.takeHandover (.winchNodeStateTaken i st)))
  ∧ (∀ (i : Fin 24) (d : Nat) (s t : State) (c : Coupling), s.inReset = false → t = { s with now := max s.now d } →
    c = s.couplings[i] →
    (c.freshness = some d → (c.state = .UNUSED ∨ c.state = .UNKNOWN ∨ c.state = .WINCH_FAULT) →
      exec (.freshnessDeadlineExpiry i) s = .next { t with couplings := s.couplings.set i { c with freshness := none } })
    ∧ (c.freshness = some d → c.state ≠ .UNUSED → c.state ≠ .UNKNOWN → c.state ≠ .WINCH_FAULT →
      exec (.freshnessDeadlineExpiry i) s = .next (t.enterCoupling i { c with freshness := none } .UNKNOWN))
    ∧ (c.deadline = some { kind := .heave, time := d } →
      exec (.heaveDeadlineExpiry i) s = .next (t.enterCoupling i c .WINCH_FAULT))
    ∧ (c.deadline = some { kind := .release, time := d } →
      exec (.releaseDeadlineExpiry i) s = .next (t.enterCoupling i c .WINCH_FAULT))
    ∧ (c.deadline = some { kind := .slackDwell, time := d } →
      exec (.slackDwellExpiry i) s = .next (t.enterCoupling i c (if c.cfg.autoTend = true then .MAKING_UP else .SLACK))))
  ∧ ∀ (i : Fin 24) (s : State),
    (s.couplings[i].freshness = none → exec (.freshnessDeadlineExpiry i) s = .next s)
    ∧ ((∀ d, s.couplings[i].deadline ≠ some { kind := .heave, time := d }) →
      exec (.heaveDeadlineExpiry i) s = .next s)
    ∧ ((∀ d, s.couplings[i].deadline ≠ some { kind := .release, time := d }) →
      exec (.releaseDeadlineExpiry i) s = .next s)
    ∧ ((∀ d, s.couplings[i].deadline ≠ some { kind := .slackDwell, time := d }) →
      exec (.slackDwellExpiry i) s = .next s)

/-! ## Meter unit -/

/-- R107 to R113, R118: what a meter report does: one that ends an estimation books nothing; one of an ENGINE meter
books its net to the engine and its feed tank; one of another meter goes to the movement that claims it, or to stray
flow; one of an UNUSED meter is taken with no other effect (log 10). The temperature invalid flag of a second channel
that is not used stays as it is (log 35). -/
def Obligations.MeterReportsTaken : Prop :=
  (∀ (i : Fin 16) (r : MeterReport) (s t : State) (m : Meter), Running s →
    t = s.takeHandover (.meterReportTaken i r) → m = s.meters[i] →
    (m.used = false → exec (.meterReportTaken i r) s = .next t)
    ∧ (m.used = true → m.estimating = true → exec (.meterReportTaken i r) s = .next { t with
        meters := s.meters.set i { m with
          ch1 := { m.ch1 with baseline := some r.ch1.count, tempInvalid := r.ch1.temp.isNone, last := some r.ch1 }
          ch2 := { m.ch2 with baseline := some r.ch2.count, tempInvalid := r.ch2.temp.isNone, last := some r.ch2 }
          estimating := false, heldRack := 0, rackHold := 0 } })
    ∧ (∀ (x y : Counted) (u v : State), m.used = true → m.estimating = false → m.cfg.kind = .ENGINE →
      x = m.ch1.count m.cfg.weight1 m.cfg.alpha m.cfg.limit r.ch1 →
      y = m.ch2.count m.cfg.weight2 m.cfg.alpha m.cfg.limit r.ch2 →
      u = { t with meters := s.meters.set i { m with
        ch1 := x.channel
        ch2 := y.channel
        excess := min 4294967295 (m.excess + x.excess + y.excess)
        implausible := if 0 < x.excess ∧ 0 < y.excess then min 65535 (m.implausible + 2)
          else if 0 < x.excess ∨ 0 < y.excess then min 65535 (m.implausible + 1) else m.implausible } } →
      v = (if 0 < x.excess ∨ 0 < y.excess then u.post .METER_IMPLAUSIBLE else u) →
      (∀ e : Fin 8, m.cfg.engine = some e → (x.delta ≠ none ∨ y.delta ≠ none) → exec (.meterReportTaken i r) s = .next
        (({ v with totals := v.totals.set e { v.totals[e] with
          metered := max (-140737488355327) (min 140737488355327 (v.totals[e].metered + ((x.q : Int) - y.q))) } }).bookTank
            .consumed ((x.q : Int) - y.q) s.engines[e].cfg.feedTank))
      ∧ ((m.cfg.engine = none ∨ (x.delta = none ∧ y.delta = none)) → exec (.meterReportTaken i r) s = .next v))
    ∧ ∀ (x : Counted) (u v : State), m.used = true → m.estimating = false → m.cfg.kind ≠ .ENGINE →
      x = m.ch1.count m.cfg.weight1 m.cfg.alpha m.cfg.limit r.ch1 →
      u = { t with meters := s.meters.set i { m with
        ch1 := x.channel
        ch2 := { m.ch2 with baseline := some r.ch2.count, last := some r.ch2 }
        excess := min 4294967295 (m.excess + x.excess)
        implausible := if 0 < x.excess then min 65535 (m.implausible + 1) else m.implausible } } →
      v = (if 0 < x.excess then u.post .METER_IMPLAUSIBLE else u) →
      (∀ c : Fin 2, s.channels[c].claimsMeter i = true → (∀ d : Fin 2, d < c → s.channels[d].claimsMeter i = false) →
        (∀ n, x.delta = some n → exec (.meterReportTaken i r) s = .next (v.bookMovement c x.q (decide (n = 0))))
        ∧ (x.delta = none → exec (.meterReportTaken i r) s = .next v))
      ∧ ((∀ c : Fin 2, s.channels[c].claimsMeter i = false) →
        exec (.meterReportTaken i r) s = .next (({ v with meters := v.meters.set i { v.meters[i] with
          stray := min 4294967295 (v.meters[i].stray + x.q) } }).postIf (decide (0 < x.q)) .STRAY_FLOW)))
  ∧ (∀ (c : MeterChannel) (r : ChannelReport) (w alpha limit : Nat), c.baseline = none →
    c.count w alpha limit r = { delta := none, q := 0, excess := 0, channel := { c with
      baseline := some r.count, tempInvalid := r.temp.isNone, last := some r } })
  ∧ (∀ (c : MeterChannel) (r : ChannelReport) (w alpha limit b d total : Nat), c.baseline = some b → b ≤ 65535 →
    r.count ≤ 65535 → d = (((r.count : Int) - b) % 65536).toNat →
    total = min d limit * w * factor alpha r.temp + c.residue →
    c.count w alpha limit r = { delta := some d, q := total / 1000000, excess := d - limit, channel := { c with
      baseline := some r.count, residue := total % 1000000, tempInvalid := r.temp.isNone, last := some r } })
  ∧ ∀ alpha : Nat, factor alpha none = 1000000
    ∧ ∀ t : Int, alpha ≤ 2000 →
      (factor alpha (some t) : Int) = 1000000 - ((alpha : Int) * (max (-200) (min 900 t) - 150)).tdiv 10

/-- R114 to R117: a change of a meter node's state, with the estimation it begins; and the expiry of the estimation
timer, which takes every estimating entry in turn, moves the clock to its moment and restarts from there (log 3). The
change of the node of an UNUSED meter is taken with no other effect (log 10). -/
def Obligations.Estimation : Prop :=
  (∀ (i : Fin 16) (st : NodeState) (s t : State) (m n : Meter), Running s → t = s.takeHandover (.meterNodeStateTaken i st) →
    m = s.meters[i] →
    (m.used = false → exec (.meterNodeStateTaken i st) s = .next t)
    ∧ (m.used = true → (st = .ONLINE ∨ st = .SUSPECT) → exec (.meterNodeStateTaken i st) s = .next { t with
        meters := s.meters.set i { m with nodeAvailable := true, heard := m.heard || decide (st = .ONLINE) } })
    ∧ (m.used = true → (st = .UNHEARD ∨ st = .OFFLINE) → m.heard = false →
      exec (.meterNodeStateTaken i st) s = .next { t with meters := s.meters.set i { m with nodeAvailable := false } })
    ∧ (m.used = true → (st = .UNHEARD ∨ st = .OFFLINE) → m.heard = true →
      n = { m with nodeAvailable := false
                   ch1 := { m.ch1 with baseline := none }, ch2 := { m.ch2 with baseline := none } } →
      ((m.cfg.kind ≠ .ENGINE ∨ m.estimating = true) →
        exec (.meterNodeStateTaken i st) s = .next { t with meters := s.meters.set i n })
      ∧ ∀ rack : Nat, m.cfg.kind = .ENGINE → m.estimating = false →
        ((∃ (e : Fin 8) (r : EngineReport), m.cfg.engine = some e ∧ s.engines[e].lastReport = some r ∧ 0 < r.rpm
            ∧ rack = r.rack)
          ∨ rack = 0 ∧ ∀ (e : Fin 8) (r : EngineReport), m.cfg.engine = some e → s.engines[e].lastReport = some r →
            r.rpm = 0) →
        exec (.meterNodeStateTaken i st) s = .next (State.post .ESTIMATING { t with
          meters := s.meters.set i { n with estimating := true, heldRack := rack, rackHold := 60 } })))
  ∧ (∀ (d : Nat) (s : State), s.inReset = false → s.estimationTimer = some d →
    exec .estimationTimerExpiry s = .next ((List.finRange 16).foldl (fun s i =>
      match s.meters[i].used && s.meters[i].estimating, s.meters[i].cfg.engine with
      | true, some e => s.estimateSecond i e
      | _, _ => s) { s with now := max s.now d, estimationTimer := some (d + ms 1000) }))
  ∧ (∀ s : State, s.estimationTimer = none → exec .estimationTimerExpiry s = .next s)
  ∧ ∀ (s : State) (i : Fin 16) (e : Fin 8) (m : Meter), m = s.meters[i] →
    (∀ (r : EngineReport) (total : Nat), s.engines[e].nodeAvailable = true → s.engines[e].lastReport = some r → 0 < r.rpm →
      total = s.engines[e].cfg.ratedRate * r.rack + m.estResidue →
      s.estimateSecond i e = State.bookTank .consumed (total / 3600 : Nat) s.engines[e].cfg.feedTank { s with
        meters := s.meters.set i { m with estResidue := total % 3600, heldRack := r.rack, rackHold := 60 }
        totals := s.totals.set e { s.totals[e] with
          estimated := min 281474976710655 (s.totals[e].estimated + total / 3600) } })
    ∧ (s.engines[e].nodeAvailable = true → (∀ r, s.engines[e].lastReport = some r → r.rpm = 0) →
      s.estimateSecond i e = { s with meters := s.meters.set i { m with heldRack := 0, rackHold := 60 } })
    ∧ (∀ total : Nat, s.engines[e].nodeAvailable = false → 0 < m.rackHold →
      total = s.engines[e].cfg.ratedRate * m.heldRack + m.estResidue →
      s.estimateSecond i e = State.bookTank .consumed (total / 3600 : Nat) s.engines[e].cfg.feedTank { s with
        meters := s.meters.set i { m with estResidue := total % 3600, rackHold := m.rackHold - 1 }
        totals := s.totals.set e { s.totals[e] with
          estimated := min 281474976710655 (s.totals[e].estimated + total / 3600) } })
    ∧ (s.engines[e].nodeAvailable = false → m.rackHold = 0 → s.estimateSecond i e = { s with
        totals := s.totals.set e { s.totals[e] with
          unaccounted := min 4294967295 (s.totals[e].unaccounted + 1) } })

/-! ## Fuel account -/

/-- R123, R124: a booking changes the book and its own total by the volume, each stopping at its limit with the
saturated flag set; the state is derived and the difference tested after it. A transfer books both tanks, then derives
the source and the destination (log 27). -/
def Obligations.Bookings : Prop :=
  (∀ (b : Booking) (v : Int) (i : Fin 8) (s : State), s.tanks[i].used = true → s.bookTank b v i =
    (({ s with tanks := s.tanks.set i { s.tanks[i] with account := s.tanks[i].account.book' b v } }).deriveTank i).discTest i)
  ∧ (∀ (v : Int) (a b : Fin 8) (s : State), a ≠ b → s.tanks[a].used = true → s.tanks[b].used = true →
    s.bookTransfer v a b = (((({ s with
      tanks := (s.tanks.set a { s.tanks[a] with account := s.tanks[a].account.book' .transferOut v }).set b
        { s.tanks[b] with account := s.tanks[b].account.book' .transferIn v } }).deriveTank a).deriveTank b).discTest
          a).discTest b)
  ∧ ∀ (a : Account) (v : Int) (book total : Int → Int),
    book = (fun x => max (-2147483648) (min 2147483647 x)) →
    total = (fun x => max (-140737488355327) (min 140737488355327 x)) →
    a.book' .consumed v = { a with
      book := book (a.book - v), consumed := total (a.consumed + v)
      saturated := a.saturated || decide (book (a.book - v) ≠ a.book - v) || decide (total (a.consumed + v) ≠ a.consumed + v) }
    ∧ a.book' .received v = { a with
      book := book (a.book + v), received := total (a.received + v)
      saturated := a.saturated || decide (book (a.book + v) ≠ a.book + v) || decide (total (a.received + v) ≠ a.received + v) }
    ∧ a.book' .transferIn v = { a with
      book := book (a.book + v), transferIn := total (a.transferIn + v)
      saturated := a.saturated || decide (book (a.book + v) ≠ a.book + v)
        || decide (total (a.transferIn + v) ≠ a.transferIn + v) }
    ∧ a.book' .transferOut v = { a with
      book := book (a.book - v), transferOut := total (a.transferOut + v)
      saturated := a.saturated || decide (book (a.book - v) ≠ a.book - v)
        || decide (total (a.transferOut + v) ≠ a.transferOut + v) }

/-- R126 to R128, R51, R146: the level used; the steps of a derivation, which goes on until no boundary is crossed; and
what a change of state hands to the engine sequencer and the movement controller. Where an eligible slot that
the tank feeds becomes ineligible, a waiting pass result holds share 0 for it (R58). A tank without a state starts from
NORMAL (log 26). -/
def Obligations.TankStates : Prop :=
  (∀ t : Tank, t.levelUsed =
    match t.sounding with
    | some l => if t.cfg.source = .SOUNDING ∧ t.soundingValid = true then (l : Int) * 1000 else t.account.book
    | none => t.account.book)
  ∧ (∀ (g : TankCfg) (v : Int),
    stepState g v .EMPTY = (if ((g.empty + g.hysteresis : Nat) : Int) * 1000 < v then some .RESERVE else none)
    ∧ stepState g v .RESERVE = (if v ≤ (g.empty : Int) * 1000 then some .EMPTY
      else if ((g.reserve + g.hysteresis : Nat) : Int) * 1000 < v then some .LOW else none)
    ∧ stepState g v .LOW = (if v ≤ (g.reserve : Int) * 1000 then some .RESERVE
      else if ((g.low + g.hysteresis : Nat) : Int) * 1000 < v then some .NORMAL else none)
    ∧ stepState g v .NORMAL = (if v ≤ (g.low : Int) * 1000 then some .LOW
      else if (g.high : Int) * 1000 ≤ v then some .HIGH else none)
    ∧ stepState g v .HIGH = (if v < ((g.high : Int) - g.hysteresis) * 1000 then some .NORMAL else none)
    ∧ ∀ st, (stepState g v st = none → deriveTankState g v st = st)
      ∧ (∀ st', stepState g v st = some st' → deriveTankState g v st = deriveTankState g v st')
      ∧ stepState g v (deriveTankState g v st) = none)
  ∧ (∀ (i : Fin 8) (s : State) (st : TankState),
    st = deriveTankState s.tanks[i].cfg s.tanks[i].levelUsed (s.tanks[i].state.getD .NORMAL) →
    ((s.tanks[i].used = false ∨ s.running = false ∨ s.tanks[i].state = some st) → s.deriveTank i = s)
    ∧ (s.tanks[i].used = true → s.running = true → s.tanks[i].state ≠ some st → s.deriveTank i =
      ((State.post .TANK_CHANGED { s with tanks := s.tanks.set i { s.tanks[i] with state := some st } }).feedChanged i
        (if st = .EMPTY then .EMPTY else if st = .RESERVE then .RESERVE else .FED)).movementTankState i st))
  ∧ (∀ (t : Fin 8) (level : FeedLevel) (s : State) (after : Fin 8 → Engine),
    after = (fun i => if s.engines[i].configured = true ∧ s.engines[i].cfg.feedTank = t then
      ({ s.engines[i] with feed := level }).settle (s.tripLatch.get s.engines[i].cfg.station)
        (s.now + ms s.params.gearDwell) else s.engines[i]) →
    s.feedChanged t level = (({ s with
        engines := Vector.ofFn after
        engineResult := s.engineResult.map fun shares : Vector Int 8 => Vector.ofFn fun i : Fin 8 =>
          if s.engines[i].eligible = true ∧ (after i).eligible = false then 0 else shares[i] }).postIf
      (decide (∃ i : Fin 8, (after i).state ≠ s.engines[i].state)) .ENGINE_CHANGED).postIf
      (decide (level = FeedLevel.EMPTY ∧ ∃ i : Fin 8, s.engines[i].configured = true ∧ s.engines[i].cfg.feedTank = t
        ∧ s.engines[i].feed ≠ FeedLevel.EMPTY)) .FEED_STARVED)
  ∧ ∀ (t : Fin 8) (st : TankState) (s : State), s.movementTankState t st = { s with
    channels := Vector.ofFn fun c : Fin 2 =>
      if s.channels[c].state = .RUNNING ∧ s.channels[c].kind = some .TRANSFER ∧ s.channels[c].source = some t
          ∧ (st = .RESERVE ∨ st = .EMPTY) then { s.channels[c] with
        state := .SETTLING, stopReason := some .SOURCE_RESERVE, stopSecond := some s.phase.seconds
        settling := some (s.now + ms 5000), zeroReports := 0 }
      else if s.channels[c].state = .RUNNING ∧ s.channels[c].destination = some t ∧ st = .HIGH then { s.channels[c] with
        state := .SETTLING, stopReason := some .DESTINATION_HIGH, stopSecond := some s.phase.seconds
        settling := some (s.now + ms 5000), zeroReports := 0 }
      else s.channels[c] }

/-- R129, R130, R127: a sounding report and the loss of a tank node; the test of the difference; and the expiry of the
discrepancy deadline, which moves the clock to its moment (log 3). For an UNUSED tank the hand-over is taken and nothing
else happens (log 10). -/
def Obligations.Soundings : Prop :=
  (∀ (i : Fin 8) (r : TankReport) (st : NodeState) (s t u : State), Running s → s.tanks[i].used = true →
    (t = { s.takeHandover (.tankReportTaken i r) with tanks := s.tanks.set i { s.tanks[i] with
        sounding := some r.level, soundingValid := r.valid
        discDeadline := if r.valid = true then s.tanks[i].discDeadline else none } } →
      exec (.tankReportTaken i r) s = .next
        ((if s.tanks[i].cfg.source = .SOUNDING then t.deriveTank i else t).discTest i))
    ∧ ((st = .ONLINE ∨ st = .SUSPECT) →
      exec (.tankNodeStateTaken i st) s = .next (s.takeHandover (.tankNodeStateTaken i st)))
    ∧ ((st = .UNHEARD ∨ st = .OFFLINE) →
      u = { s.takeHandover (.tankNodeStateTaken i st) with tanks := s.tanks.set i { s.tanks[i] with
        soundingValid := false, discDeadline := none } } →
      exec (.tankNodeStateTaken i st) s = .next (if s.tanks[i].cfg.source = .SOUNDING then u.deriveTank i else u)))
  ∧ (∀ (i : Fin 8) (r : TankReport) (st : NodeState) (s : State), Running s → s.tanks[i].used = false →
    exec (.tankReportTaken i r) s = .next (s.takeHandover (.tankReportTaken i r))
    ∧ exec (.tankNodeStateTaken i st) s = .next (s.takeHandover (.tankNodeStateTaken i st)))
  ∧ (∀ (i : Fin 8) (s : State) (t : Tank), t = s.tanks[i] →
    ((t.used = false ∨ t.soundingValid = false ∨ t.sounding = none) → s.discTest i = s)
    ∧ ∀ l : Nat, t.used = true → t.soundingValid = true → t.sounding = some l →
      ((t.account.book.tdiv 1000 - l).natAbs ≤ t.cfg.limit → s.discTest i = { s with
        tanks := s.tanks.set i { t with discDeadline := none, discrepancy := false } })
      ∧ (t.cfg.limit < (t.account.book.tdiv 1000 - l).natAbs →
        (t.discDeadline = none → t.discrepancy = false → s.discTest i = { s with
          tanks := s.tanks.set i { t with discDeadline := some (s.now + ms 60000) } })
        ∧ ((t.discDeadline ≠ none ∨ t.discrepancy = true) → s.discTest i = s)))
  ∧ (∀ (i : Fin 8) (d : Nat) (s : State), s.inReset = false → s.tanks[i].discDeadline = some d →
    exec (.discrepancyDeadlineExpiry i) s = .next (State.post .DISCREPANCY { s with
      now := max s.now d
      tanks := s.tanks.set i { s.tanks[i] with discrepancy := true, discDeadline := none } }))
  ∧ ∀ (i : Fin 8) (s : State), s.tanks[i].discDeadline = none → exec (.discrepancyDeadlineExpiry i) s = .next s

/-- R106, R131 to R133: the four requests of port E that set the account and the live fuel fields, with the checks that
follow those of the port and the phase, in their order. A REBASE_TANK with a broken presence byte is refused BAD_VALUE in
its third check, before TANK_BUSY (log 36, log 16), and one with presence 0 carries no value whatever its bytes are
(log 39). -/
def Obligations.FuelSettings : Prop :=
  ∀ (tag : Byte) (s : State), Ready .E s →
    (∀ (i : Fin 16) (alpha limit : Half), s.running = true → exec (.setMeter .E tag (BitVec.ofNat 8 i.val) alpha limit) s =
      .next (if s.meters[i].used = true then ({ s with meters := s.meters.set i { s.meters[i] with
          cfg := { s.meters[i].cfg with alpha := min 2000 alpha.toNat, limit := max 1 limit.toNat } } }).reply .E tag
            (if alpha.toNat ≤ 2000 ∧ 1 ≤ limit.toNat then .DONE else .CLAMPED) []
        else s.reply .E tag .BAD_VALUE []))
    ∧ (∀ (e t : Fin 8), s.running = true →
      exec (.setFeed .E tag (BitVec.ofNat 8 e.val) (BitVec.ofNat 8 t.val)) s = .next
        (if s.engines[e].configured = false ∨ s.tanks[t].used = false
            ∨ s.tanks[t].cfg.station ≠ s.engines[e].cfg.station then s.reply .E tag .BAD_VALUE []
         else if s.tanks[t].state = some .EMPTY then s.reply .E tag .SOURCE_LOW []
         else if s.engines[e].cfg.feedTank = t then s.reply .E tag .DONE []
         else (s.updateEngine e fun x => { x with
           cfg := { x.cfg with feedTank := t }
           feed := if s.tanks[t].state = some .RESERVE then .RESERVE else .FED }).reply .E tag .DONE []))
    ∧ (∀ (i : Fin 8) (source : StateSource) (limit : Half) (l : Nat) (t u : State), s.running = true →
      l = max 1 (min 20000 limit.toNat) →
      t = { s with tanks := s.tanks.set i { s.tanks[i] with cfg := { s.tanks[i].cfg with source := source, limit := l } } } →
      u = (if s.tanks[i].cfg.source = source then t else t.deriveTank i) →
      exec (.setTank .E tag (BitVec.ofNat 8 i.val) (BitVec.ofNat 8 source.ctorIdx) limit) s = .next
        (if s.tanks[i].used = false ∨ (source = .SOUNDING ∧ s.tanks[i].cfg.fitted = false) then s.reply .E tag .BAD_VALUE []
         else (if s.tanks[i].cfg.limit = l then u else u.discTest i).reply .E tag
           (if l = limit.toNat then .DONE else .CLAMPED) []))
    ∧ (∀ (i : Fin 8) (o : OptParam 32) (v : Nat) (claimed : Prop),
      claimed = (∃ c : Fin 2, s.channels[c].state ≠ .IDLE
        ∧ (s.channels[c].destination = some i ∨ s.channels[c].source = some i)) →
      ((s.tanks[i].used = false ∨ 2 ≤ o.presence.toNat
          ∨ (o.presence = 1 ∧ s.tanks[i].cfg.capacity * 1000 < o.value.toNat)) →
        exec (.rebaseTank .E tag (BitVec.ofNat 8 i.val) o) s = .next (s.reply .E tag .BAD_VALUE []))
      ∧ (s.tanks[i].used = true → (o.presence = 0 ∨ (o.presence = 1 ∧ o.value.toNat ≤ s.tanks[i].cfg.capacity * 1000)) →
        (claimed → exec (.rebaseTank .E tag (BitVec.ofNat 8 i.val) o) s = .next (s.reply .E tag .TANK_BUSY []))
        ∧ (¬claimed → o.presence = 0 → (s.tanks[i].soundingValid = false ∨ s.tanks[i].sounding = none) →
          exec (.rebaseTank .E tag (BitVec.ofNat 8 i.val) o) s = .next (s.reply .E tag .NOT_READY []))
        ∧ (∀ l, ¬claimed → o.presence = 0 → s.tanks[i].soundingValid = true → s.tanks[i].sounding = some l →
          s.tanks[i].cfg.capacity < l →
          exec (.rebaseTank .E tag (BitVec.ofNat 8 i.val) o) s = .next (s.reply .E tag .BAD_VALUE []))
        ∧ (¬claimed → ((o.presence = 1 ∧ v = o.value.toNat) ∨ (o.presence = 0 ∧ s.tanks[i].soundingValid = true
            ∧ ∃ l, s.tanks[i].sounding = some l ∧ l ≤ s.tanks[i].cfg.capacity ∧ v = l * 1000)) →
          exec (.rebaseTank .E tag (BitVec.ofNat 8 i.val) o) s = .next (((({ s with
            tanks := s.tanks.set i { s.tanks[i] with
              account := { book := v, opening := v, received := 0, transferIn := 0, transferOut := 0, consumed := 0
                           saturated := false }
              discrepancy := false, discDeadline := none } }).deriveTank i).discTest i).reply .E tag .DONE []))))
    ∧ ∀ (i j : Byte) (alpha limit : Half) (o : OptParam 32),
      (16 ≤ i.toNat → s.running = true → exec (.setMeter .E tag i alpha limit) s = .next (s.reply .E tag .BAD_INDEX []))
      ∧ ((8 ≤ i.toNat ∨ 8 ≤ j.toNat) → s.running = true →
        exec (.setFeed .E tag i j) s = .next (s.reply .E tag .BAD_INDEX []))
      ∧ (8 ≤ i.toNat → s.running = true → exec (.setTank .E tag i j limit) s = .next (s.reply .E tag .BAD_INDEX []))
      ∧ (i.toNat < 8 → 2 ≤ j.toNat → s.running = true →
        exec (.setTank .E tag i j limit) s = .next (s.reply .E tag .BAD_VALUE []))
      ∧ (8 ≤ i.toNat → exec (.rebaseTank .E tag i o) s = .next (s.reply .E tag .BAD_INDEX []))

/-! ## Movement controller -/

/-- R139 to R141: START_MOVEMENT in RUNNING from port E: the indexes, then the seven checks in their order; one that
passes them all opens the channel. A broken presence byte is refused BAD_VALUE in check 2, after the indexes and
CHANNEL_BUSY (log 36), and a field with presence 0 is absent whatever its bytes are (log 39). -/
def Obligations.StartMovement : Prop :=
  (∀ (tag channel : Byte) (r : MovementParams) (s : State), Ready .E s → s.running = true →
    (2 ≤ channel.toNat ∨ 8 ≤ r.destination.toNat ∨ 16 ≤ r.meter.toNat
      ∨ (r.source.presence = 1 ∧ 8 ≤ r.source.value.toNat)) →
    exec (.startMovement .E tag channel r) s = .next (s.reply .E tag .BAD_INDEX []))
  ∧ (∀ (tag : Byte) (c : Fin 2) (dst : Fin 8) (m : Fin 16) (r : MovementParams) (s : State) (o : Channel), Ready .E s →
    s.running = true → r.destination = BitVec.ofNat 8 dst.val → r.meter = BitVec.ofNat 8 m.val →
    (r.source.presence = 1 → r.source.value.toNat < 8) → o = s.channels[otherChannel c] →
    (s.channels[c].state ≠ .IDLE →
      exec (.startMovement .E tag (BitVec.ofNat 8 c.val) r) s = .next (s.reply .E tag .CHANNEL_BUSY []))
    ∧ (s.channels[c].state = .IDLE →
      (s.startOf dst m r = none →
        exec (.startMovement .E tag (BitVec.ofNat 8 c.val) r) s = .next (s.reply .E tag .BAD_VALUE []))
      ∧ ∀ (x : Start) (claimed low noRoom ready : Prop) (room : Int), s.startOf dst m r = some x →
        claimed = (o.state ≠ .IDLE ∧ (o.destination = some dst ∨ o.source = some dst
          ∨ (x.source ≠ none ∧ (o.destination = x.source ∨ o.source = x.source)) ∨ o.meter = some m
          ∨ o.pump = some x.pump)) →
        low = (∃ t, x.source = some t ∧ (s.tanks[t].state = some .RESERVE ∨ s.tanks[t].state = some .EMPTY)) →
        room = max 0 (min ((s.tanks[dst].cfg.capacity : Int) * 1000)
          ((s.tanks[dst].cfg.capacity : Int) * 1000 - s.tanks[dst].account.book)) →
        noRoom = (s.tanks[dst].state = some .HIGH ∨ ∃ l : Nat, x.target = some l ∧ room < (l : Int) * 1000) →
        ready = ((∃ e, s.entryAt x.pump = some e ∧ e.state = .ONLINE)
          ∧ ∃ n e, s.meters[m].node = some n ∧ s.entryAt n = some e ∧ (e.state = .ONLINE ∨ e.state = .SUSPECT)) →
        (claimed → exec (.startMovement .E tag (BitVec.ofNat 8 c.val) r) s = .next (s.reply .E tag .CLAIMED []))
        ∧ (¬claimed → 16 ≤ s.records.length + (if o.state = .IDLE then 0 else 1) →
          exec (.startMovement .E tag (BitVec.ofNat 8 c.val) r) s = .next (s.reply .E tag .LIST_FULL []))
        ∧ (¬claimed → s.records.length + (if o.state = .IDLE then 0 else 1) < 16 →
          (low → exec (.startMovement .E tag (BitVec.ofNat 8 c.val) r) s = .next (s.reply .E tag .SOURCE_LOW []))
          ∧ (¬low → noRoom →
            exec (.startMovement .E tag (BitVec.ofNat 8 c.val) r) s = .next (s.reply .E tag .NO_ROOM []))
          ∧ (¬low → ¬noRoom → ¬ready →
            exec (.startMovement .E tag (BitVec.ofNat 8 c.val) r) s = .next (s.reply .E tag .NODE_UNAVAILABLE []))
          ∧ (¬low → ¬noRoom → ready → exec (.startMovement .E tag (BitVec.ofNat 8 c.val) r) s = .next (({ s with
              nextMovement := if s.nextMovement = 65535 then 1 else s.nextMovement + 1
              channels := s.channels.set c {
                state := .RUNNING, kind := some x.kind, source := x.source, destination := some dst, meter := some m
                pump := some x.pump, mode := some x.mode, target := x.target, moved := 0, overflow := false, wraps := 0
                runOn := 0, stopReason := none, stopSecond := none, settling := none, zeroReports := 0
                number := some s.nextMovement, startSecond := some s.phase.seconds, lastPump := none } }).reply .E tag
                  .DONE (be 1 c.val ++ be 2 s.nextMovement))))))
  ∧ ∀ (s : State) (dst : Fin 8) (m : Fin 16) (r : MovementParams) (x : Start), s.startOf dst m r = some x ↔
    x.destination = dst ∧ x.meter = m
    ∧ r.kind = BitVec.ofNat 8 x.kind.ctorIdx ∧ r.mode = BitVec.ofNat 8 x.mode.ctorIdx
    ∧ (x.kind = .TRANSFER → r.source.presence = 1 ∧ ∃ t : Fin 8, x.source = some t ∧ r.source.value.toNat = t.val ∧ t ≠ dst)
    ∧ (x.kind = .RECEIPT → r.source.presence = 0 ∧ x.source = none)
    ∧ (x.mode = .COUNT → r.target.presence = 1 ∧ x.target = some r.target.value.toNat
      ∧ 1 ≤ r.target.value.toNat ∧ r.target.value.toNat ≤ 200000)
    ∧ (x.mode = .FREE_RUN → r.target.presence = 0 ∧ x.target = none)
    ∧ r.pumpLine = BitVec.ofNat 8 x.pump.line.ctorIdx ∧ x.pump.address = r.pumpAddress.toNat
    ∧ (∃ e, s.entryAt x.pump = some e ∧ e.bound = .pump)
    ∧ s.tanks[dst].used = true ∧ (∀ t, x.source = some t → s.tanks[t].used = true)
    ∧ s.meters[m].used = true ∧ (x.kind = .TRANSFER → s.meters[m].cfg.kind = .TRANSFER)
    ∧ (x.kind = .RECEIPT → s.meters[m].cfg.kind = .RECEIPT)

/-- R143, R144, R149: how a volume handed to an open channel is booked: moved with its wraps, the run-on and the
zero-report count in SETTLING, the count, the tanks, and the close. -/
def Obligations.MovementBookings : Prop :=
  (∀ (i : Fin 2) (q : Nat) (zero : Bool) (s t : State) (c d : Channel), c = s.channels[i] →
    d = { c with
      moved := if 4294967296 ≤ c.moved + q then c.moved + q - 4294967296 else c.moved + q
      overflow := c.overflow || decide (4294967296 ≤ c.moved + q)
      wraps := if 4294967296 ≤ c.moved + q then min 65535 (c.wraps + 1) else c.wraps
      runOn := if c.state = .SETTLING then min 4294967295 (c.runOn + q) else c.runOn
      zeroReports := if c.state = .SETTLING then (if zero = true then min 2 (c.zeroReports + 1) else 0)
        else c.zeroReports } →
    t = { s with channels := s.channels.set i d } →
    (c.state = .RUNNING →
      ((c.mode = some .COUNT ∧ ∃ l, c.target = some l ∧ l * 1000 ≤ d.moved) →
        s.bookMovement i q zero = (t.stopChannel i .COUNT_REACHED).bookMovementTanks d q)
      ∧ (¬(c.mode = some .COUNT ∧ ∃ l, c.target = some l ∧ l * 1000 ≤ d.moved) →
        s.bookMovement i q zero = t.bookMovementTanks d q))
    ∧ (c.state = .SETTLING →
      (d.zeroReports = 2 → s.bookMovement i q zero = (t.bookMovementTanks d q).closeChannel i)
      ∧ (d.zeroReports ≠ 2 → s.bookMovement i q zero = t.bookMovementTanks d q)))
  ∧ ∀ (c : Channel) (q : Nat) (s : State),
    (∀ d, c.kind = some .RECEIPT → c.destination = some d → s.bookMovementTanks c q = s.bookTank .received q d)
    ∧ (∀ a d, c.kind = some .TRANSFER → c.source = some a → c.destination = some d →
      s.bookMovementTanks c q = s.bookTransfer q a d)

/-- R142, R145, R147 to R150, R152: what stops a RUNNING channel and what closes a SETTLING one: STOP_MOVEMENT, the loss
of a node, a pump's FAULT and the settling deadline, which moves the clock to its moment (log 3); and RETIRE_MOVEMENT.
-/
def Obligations.MovementStops : Prop :=
  (∀ (i : Fin 2) (reason : StopReason) (s : State),
    (s.channels[i].state = .RUNNING → s.stopChannel i reason = { s with channels := s.channels.set i { s.channels[i] with
      state := .SETTLING, stopReason := some reason, stopSecond := some s.phase.seconds
      settling := some (s.now + ms 5000), zeroReports := 0 } })
    ∧ (s.channels[i].state ≠ .RUNNING → s.stopChannel i reason = s)
    ∧ (s.channels[i].state = .SETTLING → s.closeChannel i = State.post .MOVEMENT_ENDED { s with
      records := s.records ++ [{
        number := s.channels[i].number, kind := s.channels[i].kind, source := s.channels[i].source
        destination := s.channels[i].destination, mode := s.channels[i].mode, target := s.channels[i].target
        moved := s.channels[i].moved, runOn := s.channels[i].runOn, overflow := s.channels[i].overflow
        wraps := s.channels[i].wraps, stopReason := s.channels[i].stopReason
        startSecond := s.channels[i].startSecond, endSecond := s.phase.seconds }]
      channels := s.channels.set i { s.channels[i] with state := .IDLE, settling := none } })
    ∧ (s.channels[i].state ≠ .SETTLING → s.closeChannel i = s))
  ∧ (∀ (p : Port) (tag : Byte) (i : Fin 2) (s : State), Ready p s →
    (s.running = false → exec (.stopMovement p tag (BitVec.ofNat 8 i.val)) s = .next
      ((holderNotice p s).reply p tag .BAD_PHASE []))
    ∧ (s.running = true → s.channels[i].state = .RUNNING → exec (.stopMovement p tag (BitVec.ofNat 8 i.val)) s = .next
      (((holderNotice p s).stopChannel i .STOPPED).reply p tag .DONE []))
    ∧ (s.running = true → s.channels[i].state = .SETTLING → exec (.stopMovement p tag (BitVec.ofNat 8 i.val)) s = .next
      ((holderNotice p s).reply p tag .DONE []))
    ∧ (s.running = true → s.channels[i].state = .IDLE → exec (.stopMovement p tag (BitVec.ofNat 8 i.val)) s = .next
      ((holderNotice p s).reply p tag .NOTHING_PENDING [])))
  ∧ (∀ (p : Port) (tag channel : Byte) (s : State), Ready p s → 2 ≤ channel.toNat →
    exec (.stopMovement p tag channel) s = .next ((holderNotice p s).reply p tag .BAD_INDEX []))
  ∧ (∀ (tag : Byte) (s : State), Ready .E s →
    (s.records = [] → exec (.retireMovement .E tag) s = .next (s.reply .E tag .NOTHING_PENDING []))
    ∧ ∀ r rest, s.records = r :: rest → exec (.retireMovement .E tag) s = .next
      (({ s with records := rest }).reply .E tag .DONE (recordBody rest.length r)))
  ∧ (∀ (i : Fin 2) (st : NodeState) (m : Fin 16) (l : Line) (a : Nat) (s t u : State), Running s →
    t = s.takeHandover (.movementNodeStateTaken (.meter m) st) → u = s.takeHandover (.movementNodeStateTaken (.pump l a) st) →
    ((st = .ONLINE ∨ st = .SUSPECT) → exec (.movementNodeStateTaken (.meter m) st) s = .next t
      ∧ exec (.movementNodeStateTaken (.pump l a) st) s = .next u)
    ∧ ((st = .UNHEARD ∨ st = .OFFLINE) →
      ((∀ c : Fin 2, s.channels[c].claimsMeter m = false) → exec (.movementNodeStateTaken (.meter m) st) s = .next t)
      ∧ ((∀ c : Fin 2, s.channels[c].claimsPump { line := l, address := a } = false) →
        exec (.movementNodeStateTaken (.pump l a) st) s = .next u)
      ∧ (s.channels[i].claimsMeter m = true → (∀ c < i, s.channels[c].claimsMeter m = false) →
        exec (.movementNodeStateTaken (.meter m) st) s = .next
          (if s.channels[i].state = .RUNNING then t.stopChannel i .METER_LOST else t.closeChannel i))
      ∧ (s.channels[i].claimsPump { line := l, address := a } = true →
        (∀ c < i, s.channels[c].claimsPump { line := l, address := a } = false) →
        exec (.movementNodeStateTaken (.pump l a) st) s = .next (u.stopChannel i .PUMP_FAULT))))
  ∧ (∀ (i : Fin 2) (st : PumpStatus) (l : Line) (a : Nat) (s t : State), Running s →
    t = s.takeHandover (.pumpReportTaken l a st) →
    ((∀ c : Fin 2, s.channels[c].claimsPump { line := l, address := a } = false) →
      exec (.pumpReportTaken l a st) s = .next t)
    ∧ (s.channels[i].claimsPump { line := l, address := a } = true →
      (∀ c < i, s.channels[c].claimsPump { line := l, address := a } = false) →
      (st = .FAULT → exec (.pumpReportTaken l a st) s = .next
        (({ t with channels := s.channels.set i { s.channels[i] with lastPump := some st } }).stopChannel i .PUMP_FAULT))
      ∧ (st ≠ .FAULT → exec (.pumpReportTaken l a st) s = .next
        { t with channels := s.channels.set i { s.channels[i] with lastPump := some st } })))
  ∧ (∀ (i : Fin 2) (d : Nat) (s : State), s.inReset = false → s.channels[i].settling = some d →
    exec (.settlingDeadlineExpiry i) s = .next (State.closeChannel i { s with now := max s.now d }))
  ∧ ∀ (i : Fin 2) (s : State), s.channels[i].settling = none → exec (.settlingDeadlineExpiry i) s = .next s

/-! ## Field line controllers -/

/-- R154, R159, R162, R142: when a transmission that is due begins (the line quiet, with no character in progress), what
is composed and sent, bit by bit, and when its reply window opens; a transmission that is not due does not begin. A
timed event moves the clock to its moment (log 3); when a character is in progress is log 24, how a cut transmission
ends log 29, from when the next is due log 37, that the part's own characters do not break the quiet log 42, and the
receiver after a transmission log 43. R167: RESTART_LINE abandons the poll in progress, makes every entry UNHEARD, hands
the changes over and begins round 0 at the lowest position; on a line without entries it changes nothing. -/
def Obligations.LinePollsAndRestart : Prop :=
  ((∀ (l : Line) (since quiet : Nat) (inTime : Prop) (s : State), s.inReset = false → (s.line l).link = .due since →
      quiet = (match (s.line l).lastChar with
        | none => since
        | some t => max since (t + ms 1)) →
      inTime = ((∀ t x up, (s.line l).receiver = .sampling t x up → majority x.start = true) ∧ quiet ≤ since + ms 10) →
      (inTime → exec (.pollTransmit l) s = .next (State.transmit l { s with now := max s.now quiet })
        ∧ exec (.quietWaitTimeout l) s = .next s)
      ∧ (¬inTime →
        exec (.quietWaitTimeout l) s = .next (State.transmit l { s with now := max s.now (since + ms 10) })
        ∧ exec (.pollTransmit l) s = .next s))
    ∧ (∀ (l : Line) (s : State), (∀ since, (s.line l).link ≠ .due since) →
      exec (.pollTransmit l) s = .next s ∧ exec (.quietWaitTimeout l) s = .next s)
    ∧ (∀ (l : Line) (i : Fin 32) (e : NodeEntry) (s : State) (c : LineCtl) (a : Attempt) (payload : List Byte), c = s.line l →
      c.cursor = some i → c.nodes[i] = some e → a = (if c.attempt = some .FIRST then .RETRY else .FIRST) →
      payload = (if c.attempt = some .FIRST then c.payload else s.payloadFor l e) →
      s.transmit l = s.setLine l { c with
        position := some i, attempt := some a, payload := payload, sent := pollChars e a payload, lateTail := none
        receiver := .searching
        link := .sending s.now (s.now + charTime * (payload.length + 3)) })
    ∧ (∀ (e : NodeEntry) (a : Attempt) (payload bytes : List Byte),
      bytes = [BitVec.ofNat 8 e.address, BitVec.ofNat 8 (e.bound.kind + 1 + if a = .RETRY then 128 else 0)] ++ payload →
      (pollChars e a payload).map TxChar.data = bytes ++ [crc8 bytes]
      ∧ (pollChars e a payload).map TxChar.mark = true :: List.replicate (payload.length + 2) false)
    ∧ (∀ (x : TxChar), ∃ b0 b1 b2 b3 b4 b5 b6 b7 : Bool, x.bits = [false, b0, b1, b2, b3, b4, b5, b6, b7, x.mark, true]
      ∧ [b0, b1, b2, b3, b4, b5, b6, b7] = (List.range 8).map x.data.getLsbD)
    ∧ (∀ (c : LineCtl) (now : Nat), (c.driverEnabled = false → c.txLevel now = true)
      ∧ ∀ (start stop n k : Nat) (x : TxChar), c.link = .sending start stop → c.sent[n]? = some x → k < 11 →
        start + n * 440 + k * 40 ≤ now → now < start + n * 440 + (k + 1) * 40 → c.txLevel now = x.bits.getD k true)
    ∧ (∀ (c : LineCtl) (now start stop since : Nat), c.link = .stopping start stop since →
      (stop ≤ now → c.txLevel now = true)
      ∧ ∀ (n k : Nat) (x : TxChar), c.sent[n]? = some x → k < 11 → now < stop →
        start + n * 440 + k * 40 ≤ now → now < start + n * 440 + (k + 1) * 40 → c.txLevel now = x.bits.getD k true)
    ∧ (∀ (l : Line) (e : NodeEntry) (s : State),
      (∀ i, e.bound = .engine i → s.payloadFor l e = be 2 s.engines[i].rpm ++
        [if s.engines[i].gear = .NEUTRAL then 0 else if s.engines[i].gear = .AHEAD then 1 else 2])
      ∧ (∀ i, e.bound = .rudder i → s.payloadFor l e = beInt 2 s.rudders[i].commanded)
      ∧ (∀ i, e.bound = .winch i → s.payloadFor l e =
        BitVec.ofNat 8 s.couplings[i].command.ctorIdx :: be 2 s.couplings[i].cfg.target)
      ∧ (∀ i, e.bound = .meter i → s.payloadFor l e = []) ∧ (∀ i, e.bound = .tank i → s.payloadFor l e = [])
      ∧ (e.bound = .pump → s.payloadFor l e = [if s.channels[0].state = .RUNNING
          ∧ s.channels[0].pump = some { line := l, address := e.address } ∨ s.channels[1].state = .RUNNING
          ∧ s.channels[1].pump = some { line := l, address := e.address } then 1 else 0]))
    ∧ ∀ (l : Line) (s : State), s.inReset = false →
      (∀ start stop, (s.line l).link = .sending start stop → exec (.pollTransmissionEnd l) s = .next
        (State.setLine { s with now := max s.now stop } l { s.line l with link := .window (stop + ms 5) true .waiting }))
      ∧ (∀ start stop since, (s.line l).link = .stopping start stop since → exec (.pollTransmissionEnd l) s = .next
        (State.setLine { s with now := max s.now stop } l { s.line l with
          link := if (s.line l).activity = .POLLING then .due since else .idle }))
      ∧ ((∀ start stop, (s.line l).link ≠ .sending start stop) →
        (∀ start stop since, (s.line l).link ≠ .stopping start stop since) →
        exec (.pollTransmissionEnd l) s = .next s))
  ∧ ((∀ (p : Port) (tag : Byte) (l : Line) (s : State), Ready p s →
        (s.running = true → exec (.restartLine p tag (BitVec.ofNat 8 l.ctorIdx)) s = .next
          (((holderNotice p s).restartLine l).reply p tag .DONE []))
        ∧ (s.running = false → exec (.restartLine p tag (BitVec.ofNat 8 l.ctorIdx)) s = .next
          ((holderNotice p s).reply p tag .BAD_PHASE [])))
      ∧ (∀ (p : Port) (tag line : Byte) (s : State), Ready p s → 2 ≤ line.toNat →
        exec (.restartLine p tag line) s = .next ((holderNotice p s).reply p tag .BAD_INDEX []))
      ∧ ∀ (l : Line) (s : State) (c : LineCtl), c = s.line l →
        ((∀ i : Fin 32, c.nodes[i] = none) → s.restartLine l = s)
        ∧ ∀ i : Fin 32, c.nodes[i] ≠ none → (∀ j < i, c.nodes[j] = none) → s.restartLine l = State.postIf
          (decide (∃ j : Fin 32, (c.nodes[j].any fun e => decide (e.state ≠ .UNHEARD)) = true)) .NODE_CHANGED
          (s.setLine l { c with
            nodes := Vector.ofFn fun j : Fin 32 => c.nodes[j].map fun e => { e with state := .UNHEARD, failures := 0 }
            round := 0, position := none, attempt := none, cursor := some i, lateTail := none
            link := match c.link with
              | .sending start stop => .stopping start (min stop (start + ((s.now - start) / 440 + 1) * 440)) s.now
              | .stopping start stop _ => .stopping start stop s.now
              | _ => .due s.now
            handovers := c.handovers ++ (List.finRange 32).flatMap fun j =>
              match c.nodes[j] with
              | some e => if e.state = .UNHEARD then [] else stateHandovers l e .UNHEARD
              | none => [] }))

/-- R154, R155, R160 to R162: how samples make a character (a mark bit and no parity; noisy where the samples of any bit
disagree); when the receiver looks for the falling edge of one, and waits for the line to be high (log 24, log 41); and
what a character does at its end: it begins a reply, joins it, or counts as a stray of the entry or of the line. The
line may rise after sample 9 of a stop bit, before the character ends, and the receiver then waits no more. While the
driver is enabled nothing is received; the rest of a late reply that runs on after its window counts as strays of its
entry, up to one character over the length of its kind (log 23). A reply that had ended before an edge is decided first, at the time it ended. -/
def Obligations.CharactersReceived : Prop :=
  (∀ x : CharSamples, (majority x.start = true → receiveChar x = none)
    ∧ (majority x.start = false → ∃ ch, receiveChar x = some ch
      ∧ (∀ i : Fin 8, ch.data.getLsbD i.val = majority x.data[i]) ∧ ch.mark = majority x.mark
      ∧ ch.framing = !(majority x.stop)
      ∧ (ch.noisy = true ↔ disagree x.start = true ∨ (∃ i : Fin 8, disagree x.data[i] = true) ∨ disagree x.mark = true
        ∨ disagree x.stop = true)))
  ∧ (∀ y : Samples, (majority y = true ↔ 2 ≤ [y.s1, y.s2, y.s3].count true)
    ∧ (disagree y = true ↔ ¬(y.s1 = y.s2 ∧ y.s2 = y.s3)))
  ∧ (∀ (l : Line) (x : CharSamples) (s : State) (c : LineCtl), s.inReset = false → c = s.line l →
    (c.driverEnabled = true → exec (.fieldCharacterReceived l (.edge x)) s = .next s)
    ∧ (c.driverEnabled = false → c.receiver = .searching →
      (c.endedBy s.now = none → exec (.fieldCharacterReceived l (.edge x)) s = .next
        (s.setLine l { c with receiver := .sampling s.now x false }))
      ∧ ∀ (d : Nat) (t : State), c.endedBy s.now = some d →
        t = { State.endReception l { s with now := d } with now := s.now } →
        exec (.fieldCharacterReceived l (.edge x)) s = .next
          (t.setLine l { t.line l with receiver := .sampling s.now x false }))
    ∧ (c.driverEnabled = false → c.receiver = .waitingHigh → exec (.fieldCharacterReceived l (.edge x)) s = .next s)
    ∧ (∀ (since : Nat) (y : CharSamples) (up : Bool) (free : Prop), c.driverEnabled = false →
      c.receiver = .sampling since y up →
      free = (if majority y.start = true then since + 18 ≤ s.now
        else (y.stop.s3 = true ∨ up = true) ∧ since + 423 ≤ s.now) →
      (free → exec (.fieldCharacterReceived l (.edge x)) s = exec (.fieldCharacterReceived l (.edge x)) (s.charEnds l))
      ∧ (¬free → exec (.fieldCharacterReceived l (.edge x)) s = .next s))
    ∧ (c.receiver = .waitingHigh → exec (.fieldCharacterReceived l .high) s =
      .next (s.setLine l { c with receiver := .searching }))
    ∧ (c.receiver = .searching → exec (.fieldCharacterReceived l .high) s = .next s)
    ∧ ∀ (since : Nat) (y : CharSamples) (up : Bool), c.receiver = .sampling since y up →
      (s.now < since + 423 → exec (.fieldCharacterReceived l .high) s = .next s)
      ∧ (since + 423 ≤ s.now → exec (.fieldCharacterReceived l .high) s =
        .next (s.setLine l { c with receiver := .sampling since y true })))
  ∧ (∀ (c : LineCtl) (now : Nat) (i : Fin 32) (e : NodeEntry), c.position = some i → c.nodes[i] = some e →
    (∀ t o chars, c.link = .window t o (.reply chars) → c.endedBy now =
      if e.bound.replyLength < chars.length then some (c.lastChar.getD 0)
      else if c.receiver.characterSince = none ∧ c.lastChar.getD 0 + ms 1 < now then some (c.lastChar.getD 0 + ms 1 + 1)
      else none)
    ∧ (∀ t o n, c.link = .window t o (.late n) → c.endedBy now =
      if e.bound.replyLength < n then some (c.lastChar.getD 0)
      else if c.receiver.characterSince = none ∧ c.lastChar.getD 0 + ms 1 < now then some (c.lastChar.getD 0 + ms 1 + 1)
      else none)
    ∧ (∀ t, c.link = .window t true .waiting → c.lateTail = none → c.endedBy now = none))
  ∧ (∀ (c : LineCtl) (now : Nat), (c.link = .idle ∨ ∃ due, c.link = .due due) →
    (c.lateTail = none → c.endedBy now = none)
    ∧ (c.lateTail ≠ none → c.endedBy now =
      if c.receiver.characterSince = none ∧ c.lastChar.getD 0 + ms 1 < now then some (c.lastChar.getD 0 + ms 1 + 1)
      else none))
  ∧ (∀ (since : Nat) (x : CharSamples) (up : Bool), LineReceiver.searching.characterSince = none
    ∧ LineReceiver.waitingHigh.characterSince = none
    ∧ (LineReceiver.sampling since x up).characterSince = if majority x.start = true then none else some since)
  ∧ (∀ (l : Line) (s : State), s.inReset = false →
    ((∀ since y up, (s.line l).receiver ≠ .sampling since y up) → exec (.fieldCharacterReceived l .ends) s = .next s)
    ∧ ∀ since y up, (s.line l).receiver = .sampling since y up → exec (.fieldCharacterReceived l .ends) s = .next
      (State.charEnds l { s with
        now := max s.now (since + if majority y.start = true then 18 else 11 * 40) }))
  ∧ ∀ (l : Line) (since : Nat) (y : CharSamples) (up : Bool) (s : State) (c d : LineCtl), c = s.line l →
    c.receiver = .sampling since y up →
    (receiveChar y = none → s.charEnds l = s.setLine l { c with receiver := .searching })
    ∧ ∀ ch : RxChar, receiveChar y = some ch →
      d = { c with
        receiver := if y.stop.s3 = true ∨ up = true then .searching else .waitingHigh
        lastChar := some (since + 440) } →
      (∀ (i : Fin 32) (e : NodeEntry), c.position = some i → c.nodes[i] = some e →
        (∀ t : Nat, c.link = .window t true .waiting →
          ((ch.mark = true ∧ ch.data.toNat = e.address + 128) →
            s.charEnds l = s.setLine l { d with link := .window t true (.reply [ch]) })
          ∧ (¬(ch.mark = true ∧ ch.data.toNat = e.address + 128) →
            s.charEnds l = s.setLine l { d with
              nodes := c.nodes.set i (some { e with stray := min 65535 (e.stray + 1) }) }))
        ∧ (∀ (t : Nat) (o : Bool) (chars : List RxChar), c.link = .window t o (.reply chars) →
          ((chars.length = 1 ∧ ch.mark = false ∧ ch.data.msb ≠ decide (c.attempt = some .RETRY)) →
            s.charEnds l = s.setLine l { d with
              nodes := c.nodes.set i (some { e with stray := min 65535 (e.stray + 2) }), link := .window t o (.late 2) })
          ∧ (¬(chars.length = 1 ∧ ch.mark = false ∧ ch.data.msb ≠ decide (c.attempt = some .RETRY)) →
            s.charEnds l = s.setLine l { d with link := .window t o (.reply (chars ++ [ch])) }))
        ∧ ∀ (t : Nat) (o : Bool) (n : Nat), c.link = .window t o (.late n) → s.charEnds l = s.setLine l { d with
          nodes := c.nodes.set i (some { e with stray := min 65535 (e.stray + 1) }), link := .window t o (.late (n + 1)) })
      ∧ ((c.link = .idle ∨ ∃ due, c.link = .due due) →
        (c.lateTail = none → s.charEnds l = s.setLine l { d with strays := min 4294967295 (c.strays + 1) })
        ∧ ∀ (i : Fin 32) (n : Nat), c.lateTail = some (i, n) →
          (c.nodes[i] = none → s.charEnds l = s.setLine l { d with strays := min 4294967295 (c.strays + 1) })
          ∧ ∀ e : NodeEntry, c.nodes[i] = some e →
            (n ≤ e.bound.replyLength → s.charEnds l = s.setLine l { d with
              nodes := c.nodes.set i (some { e with stray := min 65535 (e.stray + 1) }), lateTail := some (i, n + 1) })
            ∧ (e.bound.replyLength < n → s.charEnds l = s.setLine l { d with
              strays := min 4294967295 (c.strays + 1), lateTail := none }))

/-- R160, R161, R163: the reply window closes and a reply ends: a reply in progress goes on, an attempt without one is
TIMEOUT, and a reply that has ended is GOOD where every condition holds, and CHECK where one fails; after a late reply
the window goes on, or the attempt is TIMEOUT where it has closed, and the rest of a late reply that runs on after its
window ends by the gap and changes nothing else (log 23). A character in progress puts off the end by
the gap (log 24). A timed event moves the clock to its moment (log 3). -/
def Obligations.AttemptOutcomes : Prop :=
  (∀ (l : Line) (t : Nat) (rx : Reception) (s u : State) (c : LineCtl), s.inReset = false → c = s.line l →
    c.link = .window t true rx → u = { s with now := max s.now t } →
    (rx = .waiting → exec (.replyWindowClose l) s = .next (u.attemptFailed l .TIMEOUT))
    ∧ (∀ chars, rx = .reply chars → exec (.replyWindowClose l) s = .next
      (u.setLine l { c with link := .window t false (.reply chars) }))
    ∧ (∀ n, rx = .late n → exec (.replyWindowClose l) s = .next
      ((u.setLine l { c with lateTail := c.position.map fun i => (i, n) }).attemptFailed l .TIMEOUT)))
  ∧ (∀ (l : Line) (s : State), (∀ t rx, (s.line l).link ≠ .window t true rx) → exec (.replyWindowClose l) s = .next s)
  ∧ (∀ (l : Line) (i : Fin 32) (e f : NodeEntry) (t d : Nat) (o : Bool) (chars : List RxChar) (s u : State) (c : LineCtl),
    s.inReset = false → c = s.line l → c.link = .window t o (.reply chars) → c.position = some i → c.nodes[i] = some e →
    d = (if e.bound.replyLength < chars.length then c.lastChar.getD 0 else c.lastChar.getD 0 + ms 1 + 1) →
    (e.bound.replyLength < chars.length ∨ c.receiver.characterSince = none) → u = { s with now := max s.now d } →
    (∀ r, judgeReply e (c.attempt.getD .FIRST) chars = some r →
      f = { e with
        framing := if chars.any RxChar.framing then min 65535 (e.framing + 1) else e.framing
        noise := if chars.any RxChar.noisy then min 65535 (e.noise + 1) else e.noise } →
      exec (.replyEnd l) s = .next (u.pollGood l i f r))
    ∧ (judgeReply e (c.attempt.getD .FIRST) chars = none →
      f = { e with framing := if chars.any RxChar.framing then min 65535 (e.framing + 1) else e.framing } →
      exec (.replyEnd l) s = .next ((u.setLine l { c with nodes := c.nodes.set i (some f) }).attemptFailed l .CHECK)))
  ∧ (∀ (l : Line) (i : Fin 32) (e : NodeEntry) (t d n : Nat) (o : Bool) (s u : State) (c : LineCtl),
    s.inReset = false → c = s.line l → c.link = .window t o (.late n) → c.position = some i → c.nodes[i] = some e →
    d = (if e.bound.replyLength < n then c.lastChar.getD 0 else c.lastChar.getD 0 + ms 1 + 1) →
    (e.bound.replyLength < n ∨ c.receiver.characterSince = none) → u = { s with now := max s.now d } →
    (o = true → exec (.replyEnd l) s = .next (u.setLine l { c with link := .window t true .waiting }))
    ∧ (o = false → exec (.replyEnd l) s = .next (u.attemptFailed l .TIMEOUT)))
  ∧ (∀ (l : Line) (i : Fin 32) (e : NodeEntry) (s : State) (c : LineCtl) (since : Nat), c = s.line l →
    c.position = some i → c.nodes[i] = some e → c.receiver.characterSince = some since →
    ((∃ t o chars, c.link = .window t o (.reply chars) ∧ chars.length ≤ e.bound.replyLength)
      ∨ ∃ t o n, c.link = .window t o (.late n) ∧ n ≤ e.bound.replyLength) →
    exec (.replyEnd l) s = .next s)
  ∧ (∀ (l : Line) (s : State) (c : LineCtl), s.inReset = false → c = s.line l → (c.link = .idle ∨ ∃ due, c.link = .due due) →
    (c.lateTail ≠ none → c.receiver.characterSince = none → exec (.replyEnd l) s = .next
      (State.setLine { s with now := max s.now (c.lastChar.getD 0 + ms 1 + 1) } l { c with lateTail := none }))
    ∧ ((c.lateTail = none ∨ c.receiver.characterSince ≠ none) → exec (.replyEnd l) s = .next s))
  ∧ (∀ (e : NodeEntry) (a : Attempt) (chars : List RxChar) (r : NodeReport) (data : List Byte),
    data = chars.map RxChar.data → (judgeReply e a chars = some r ↔
      chars.length = e.bound.replyLength
      ∧ chars.map RxChar.mark = true :: List.replicate (e.bound.replyLength - 1) false
      ∧ data.getD 1 0 = BitVec.ofNat 8 (e.bound.kind + 1 + if a = .RETRY then 128 else 0)
      ∧ data.getLast? = some (crc8 data.dropLast) ∧ (∀ ch ∈ chars, ch.framing = false)
      ∧ parseReply e.bound ((data.drop 2).dropLast) = some r))
  ∧ (∀ (i : Fin 8) (j : Fin 24) (k : Fin 16),
    (Bound.engine i).replyLength = 9 ∧ (Bound.rudder i).replyLength = 5 ∧ (Bound.winch j).replyLength = 6
    ∧ (Bound.meter k).replyLength = 11 ∧ (Bound.tank i).replyLength = 7 ∧ Bound.pump.replyLength = 4)
  ∧ ∀ (a b c d e f g h : Byte) (i : Fin 8) (j : Fin 24) (k : Fin 16),
    (∀ r, parseReply (.engine i) [a, b, c, d, e, f] = some r ↔ ∃ (gear : Gear) (fault : FaultClass),
      c = (if gear = .NEUTRAL then 0 else if gear = .AHEAD then 1 else 2) ∧ (d ++ e).toNat ≤ 1000
      ∧ f = BitVec.ofNat 8 fault.ctorIdx ∧ r = .engine ⟨(a ++ b).toNat, gear, (d ++ e).toNat, fault⟩)
    ∧ parseReply (.rudder i) [a, b] = some (.rudder (a ++ b).toInt)
    ∧ (∀ r, parseReply (.winch j) [a, b, c] = some r ↔ ∃ drum : DrumStatus, c = BitVec.ofNat 8 drum.ctorIdx
      ∧ (a ++ b).toNat ≤ 2000 ∧ r = .winch ⟨(a ++ b).toNat, drum⟩)
    ∧ parseReply (.meter k) [a, b, c, d, e, f, g, h] = some (.meter
      ⟨⟨(a ++ b).toNat, if (c ++ d).toNat = 0x8000 then none else some (c ++ d).toInt⟩,
       ⟨(e ++ f).toNat, if (g ++ h).toNat = 0x8000 then none else some (g ++ h).toInt⟩⟩)
    ∧ (∀ r, parseReply (.tank i) [a, b, c, d] = some r ↔ ∃ v : Bool, d = (if v = true then 1 else 0)
      ∧ r = .tank ⟨(a ++ b ++ c).toNat, v⟩)
    ∧ (∀ r, parseReply .pump [a] = some r ↔ ∃ st : PumpStatus, a = BitVec.ofNat 8 st.ctorIdx ∧ r = .pump st)

/-- R158, R163 to R166: what the outcome of an attempt does to the entry, its state, its counters, the owners and the
round: a first attempt that fails is followed by the retry; a poll that ends settles the state and goes on to the next
position, in this round or, where it visits none, in the next that does; rounds with no entry to visit complete as they
begin (log 28). -/
def Obligations.PollOutcomes : Prop :=
  (∀ (l : Line) (f : Failure) (s : State) (c : LineCtl), c = s.line l →
    (c.attempt = some .FIRST → s.attemptFailed l f = s.setLine l { c with link := .due s.now })
    ∧ ∀ (i : Fin 32) (e : NodeEntry), c.attempt = some .RETRY → c.position = some i → c.nodes[i] = some e →
      s.attemptFailed l f = (s.settleEntry l i e (e.failed f)).modLine l (LineCtl.endPoll s.now i))
  ∧ (∀ (l : Line) (i : Fin 32) (e : NodeEntry) (r : NodeReport) (s : State),
    s.pollGood l i e r =
      (s.settleEntry l i e { e with state := .ONLINE, failures := 0, lastReport := some r }).modLine l fun c =>
        LineCtl.endPoll s.now i { c with handovers := c.handovers ++ reportHandovers l e r })
  ∧ (∀ (e : NodeEntry) (n : Nat), n = min 3 (e.failures + 1) →
    e.failed .TIMEOUT = { e with timeout := min 65535 (e.timeout + 1), failures := n, state := failedState n e.state }
    ∧ e.failed .CHECK = { e with check := min 65535 (e.check + 1), failures := n, state := failedState n e.state })
  ∧ (∀ n : Nat, failedState n .ONLINE = .SUSPECT ∧ failedState n .OFFLINE = .OFFLINE
    ∧ (n < 3 → failedState n .UNHEARD = .UNHEARD ∧ failedState n .SUSPECT = .SUSPECT)
    ∧ (3 ≤ n → failedState n .UNHEARD = .OFFLINE ∧ failedState n .SUSPECT = .OFFLINE))
  ∧ (∀ (l : Line) (i : Fin 32) (old e : NodeEntry) (s : State) (c : LineCtl) (nodes : Vector (Option NodeEntry) 32)
      (down : Prop) (_ : Decidable down),
    c = s.line l → nodes = c.nodes.set i (some e) →
    (down ↔ ∀ (j : Fin 32) (x : NodeEntry), nodes[j] = some x → x.state = .OFFLINE) →
    (e.state = old.state → s.settleEntry l i old e = s.setLine l { c with nodes := nodes })
    ∧ (e.state ≠ old.state → s.settleEntry l i old e = State.postIf (decide (down ∧ c.lineDown = false)) .LINE_DOWN
      (State.post .NODE_CHANGED (s.setLine l { c with
        nodes := nodes
        handovers := c.handovers ++ stateHandovers l e e.state
        lineDown := if e.state = .ONLINE then false else c.lineDown || decide down }))))
  ∧ (∀ (l : Line) (e : NodeEntry) (st : NodeState) (r : NodeReport),
    (∀ i, e.bound = .engine i → stateHandovers l e st = [.engineNodeStateTaken i st])
    ∧ (∀ i, e.bound = .rudder i → stateHandovers l e st = [.rudderNodeStateTaken i st])
    ∧ (∀ i, e.bound = .winch i → stateHandovers l e st = [.winchNodeStateTaken i st])
    ∧ (∀ i, e.bound = .meter i → stateHandovers l e st =
      [.meterNodeStateTaken i st, .movementNodeStateTaken (.meter i) st])
    ∧ (∀ i, e.bound = .tank i → stateHandovers l e st = [.tankNodeStateTaken i st])
    ∧ (e.bound = .pump → stateHandovers l e st = [.movementNodeStateTaken (.pump l e.address) st])
    ∧ (∀ i x, e.bound = .engine i → r = .engine x → reportHandovers l e r = [.engineReportTaken i x])
    ∧ (∀ i x, e.bound = .rudder i → r = .rudder x → reportHandovers l e r = [.rudderReportTaken i x])
    ∧ (∀ i x, e.bound = .winch i → r = .winch x → reportHandovers l e r = [.winchReportTaken i x])
    ∧ (∀ i x, e.bound = .meter i → r = .meter x → reportHandovers l e r = [.meterReportTaken i x])
    ∧ (∀ i x, e.bound = .tank i → r = .tank x → reportHandovers l e r = [.tankReportTaken i x])
    ∧ (∀ x, e.bound = .pump → r = .pump x → reportHandovers l e r = [.pumpReportTaken l e.address x]))
  ∧ ∀ (now : Nat) (i : Fin 32) (c : LineCtl) (visits : Nat → Fin 32 → Prop),
    visits = (fun round j => ∃ e, c.nodes[j] = some e ∧ (e.state ≠ .OFFLINE ∨ round % 8 = 0)) →
    (∀ j : Fin 32, i < j → visits c.round j → (∀ k : Fin 32, i < k → k < j → ¬visits c.round k) →
      c.endPoll now i = { c with position := none, attempt := none, link := .due now, cursor := some j })
    ∧ ∀ (n : Nat) (j : Fin 32), 1 ≤ n → n ≤ 8 → (∀ k : Fin 32, i < k → ¬visits c.round k) →
      (∀ m : Nat, 1 ≤ m → m < n → ∀ k : Fin 32, ¬visits ((c.round + m) % 65536) k) →
      visits ((c.round + n) % 65536) j → (∀ k < j, ¬visits ((c.round + n) % 65536) k) →
      c.endPoll now i = { c with
        position := none, attempt := none, link := .due now, cursor := some j, round := (c.round + n) % 65536
        roundsCompleted := (c.roundsCompleted + n) % 4294967296 }

/-! ## Events, phase and the laws -/

/-- R176: READ_EVENTS, CLEAR_EVENTS and SET_EVENT_MASK on the issuing port's own pending set and mask, from any port in
either phase; a set that names a position beyond the 22 kinds is refused BAD_VALUE. -/
def Obligations.EventRequests : Prop :=
  (∀ (p : Port) (tag : Byte) (set : BitVec 24) (q : EventSet) (s : State), Ready p s →
    exec (.readEvents p tag) s = .next ((holderNotice p s).reply p tag .DONE
      (be 3 (s.port p).pending.toNat ++ be 3 (s.port p).mask.toNat))
    ∧ (set.toNat < 2 ^ 22 → (∀ n, q.getLsbD n = ((s.port p).pending.getLsbD n && !set.getLsbD n)) →
      exec (.clearEvents p tag set) s = .next
        (((holderNotice p s).setPort p { s.port p with pending := q }).reply p tag .DONE (be 3 q.toNat)))
    ∧ (q.toNat = set.toNat → exec (.setEventMask p tag set) s = .next
        (((holderNotice p s).setPort p { s.port p with mask := q }).reply p tag .DONE (be 3 q.toNat)))
    ∧ (2 ^ 22 ≤ set.toNat →
      exec (.clearEvents p tag set) s = .next ((holderNotice p s).reply p tag .BAD_VALUE [])
      ∧ exec (.setEventMask p tag set) s = .next ((holderNotice p s).reply p tag .BAD_VALUE [])))
  ∧ ∀ (p q : Port) (tag : Byte) (r : Result) (body : List Byte) (x : PortRec) (s : State), p ≠ q →
    ((s.setPort p x).reply p tag r body).port q = s.port q ∧ (holderNotice p s).port q = s.port q

/-- R184: a commit passes exactly where none of the nine checks fails; one that fails names the first check that fails,
and its first item in the order that the check scans: the node entries of line A, then of line B, by position, the
objects of check 6 kind after kind by index, the meters and then the engines of check 8. -/
def Obligations.CommitChecks : Prop :=
  ∀ (s : State) (c1 c2 c3 c4 c5 nodes6 objects6 c7 meters8 engines8 c9 : Prop) (wrong6 : Bound → Prop)
    (twice : Line → Fin 32 → Prop) (meterWrong : Fin 16 → Prop) (engineWrong weightWrong : Fin 8 → Prop)
    (before : Line → Fin 32 → Line → Fin 32 → Prop),
    (∀ l i k j, before l i k j ↔ l = .A ∧ k = .B ∨ l = k ∧ i < j) →
    (∀ b, wrong6 b ↔ b ≠ .pump ∧ ObjectConfigured s b ∧ ¬BoundOnce s b) →
    (∀ l i, twice l i ↔ ∃ (j : Fin 32) (e f : NodeEntry), j < i ∧ (s.line l).nodes[j] = some e
      ∧ (s.line l).nodes[i] = some f ∧ e.address = f.address) →
    (∀ i, meterWrong i ↔ s.meters[i].used = true ∧ ¬((s.meters[i].cfg.kind = .ENGINE ∧ ∃ e, s.meters[i].cfg.engine = some e
        ∧ s.engines[e].configured = true ∧ s.engines[e].cfg.meter = some i)
      ∨ (s.meters[i].cfg.kind ≠ .ENGINE ∧ s.meters[i].cfg.engine = none))) →
    (∀ i, engineWrong i ↔ s.engines[i].configured = true ∧ ∃ m, s.engines[i].cfg.meter = some m
      ∧ ¬(s.meters[m].used = true ∧ s.meters[m].cfg.kind = .ENGINE ∧ s.meters[m].cfg.engine = some i)) →
    (∀ i, weightWrong i ↔ s.engines[i].configured = true
      ∧ ¬(1 ≤ s.engines[i].cfg.weight ∧ s.engines[i].cfg.weight ≤ 100)) →
    c1 = (∃ i : Fin 8, AheadEngine s i) → c2 = (∀ i : Fin 8, ¬FeedWrong s i) → c3 = (∀ i : Fin 8, ¬SpeedWrong s i) →
    c4 = (∀ i : Fin 24, ¬LevelsWrong s i) → c5 = (∀ i : Fin 8, ¬TankLevelsWrong s i) →
    nodes6 = (∀ (l : Line) (i : Fin 32) (e : NodeEntry), (s.line l).nodes[i] = some e → ObjectConfigured s e.bound) →
    objects6 = (∀ b, ¬wrong6 b) → c7 = (∀ l i, ¬twice l i) → meters8 = (∀ i, ¬meterWrong i) →
    engines8 = (∀ i, ¬engineWrong i) → c9 = (∀ i, ¬weightWrong i) →
    (s.commitFailure = none ↔
      c1 ∧ c2 ∧ c3 ∧ c4 ∧ c5 ∧ nodes6 ∧ objects6 ∧ c7 ∧ meters8 ∧ engines8 ∧ c9)
    ∧ (¬c1 → s.commitFailure = some (1, none))
    ∧ (c1 → ∀ i : Fin 8, FeedWrong s i → (∀ j < i, ¬FeedWrong s j) →
      s.commitFailure = some (2, some { table := .ENGINE, index := i.val, position := 0 }))
    ∧ (c1 → c2 → ∀ i : Fin 8, SpeedWrong s i → (∀ j < i, ¬SpeedWrong s j) →
      s.commitFailure = some (3, some { table := .ENGINE, index := i.val, position := 0 }))
    ∧ (c1 → c2 → c3 → ∀ i : Fin 24, LevelsWrong s i → (∀ j < i, ¬LevelsWrong s j) →
      s.commitFailure = some (4, some { table := .COUPLING, index := i.val, position := 0 }))
    ∧ (c1 → c2 → c3 → c4 → ∀ i : Fin 8, TankLevelsWrong s i → (∀ j < i, ¬TankLevelsWrong s j) →
      s.commitFailure = some (5, some { table := .TANK, index := i.val, position := 0 }))
    ∧ (c1 → c2 → c3 → c4 → c5 →
      (∀ (l : Line) (i : Fin 32) (e : NodeEntry), (s.line l).nodes[i] = some e → ¬ObjectConfigured s e.bound →
        (∀ k j f, before k j l i → (s.line k).nodes[j] = some f → ObjectConfigured s f.bound) →
        s.commitFailure = some (6, some { table := .NODE, index := l.ctorIdx, position := i.val }))
      ∧ (nodes6 → ∀ (b : Bound) (t : CommitTable) (n : Nat), wrong6 b → t.ctorIdx = b.kind → b.number = some n →
        (∀ (a : Bound) (m : Nat), a.number = some m → (a.kind < b.kind ∨ a.kind = b.kind ∧ m < n) → ¬wrong6 a) →
        s.commitFailure = some (6, some { table := t, index := n, position := 0 }))
      ∧ (nodes6 → objects6 →
        (∀ (l : Line) (i : Fin 32), twice l i → (∀ k j, before k j l i → ¬twice k j) →
          s.commitFailure = some (7, some { table := .NODE, index := l.ctorIdx, position := i.val }))
        ∧ (c7 → ∀ i, meterWrong i → (∀ j < i, ¬meterWrong j) →
          s.commitFailure = some (8, some { table := .METER, index := i.val, position := 0 }))
        ∧ (c7 → meters8 → ∀ i, engineWrong i → (∀ j < i, ¬engineWrong j) →
          s.commitFailure = some (8, some { table := .ENGINE, index := i.val, position := 0 }))
        ∧ (c7 → meters8 → engines8 → ∀ i, weightWrong i → (∀ j < i, ¬weightWrong j) →
          s.commitFailure = some (9, some { table := .ENGINE, index := i.val, position := 0 }))))

/-- R184, R185, R22, R24, R26, R66, R79, R101, R119, R134, R153, R168, R181: a commit that fails records its outcome
alone; one that passes gives every block its commit values, and posts PHASE_CHANGED, and STATION_TRIPPED where a trip
line is asserted. That the levels of the trip lines are kept as sampled is log 6, and that results and hand-overs not
yet taken are dropped log 9. -/
def Obligations.CommitConfig : Prop :=
  (∀ (p : Port) (tag : Byte) (lines : PerStation Bool) (check : Nat) (item : Option CommitItem) (s : State), Ready p s →
    s.running = false → s.commitFailure = some (check, item) → exec (.commitConfig p tag lines) s = .next
      (({ holderNotice p s with phase := { s.phase with lastCommit := some (.invalid check item) } }).reply p tag
        .CONFIG_INVALID (be 1 check ++ encOpt 3 (fun x : CommitItem =>
          [BitVec.ofNat 8 x.table.ctorIdx] ++ be 1 x.index ++ be 1 x.position) item)))
  ∧ (∀ (p : Port) (tag : Byte) (lines : PerStation Bool) (tanks : Vector Tank 8) (engines : Vector Engine 8)
      (rudders : Vector Rudder 8) (couplings : Vector Coupling 24) (meters : Vector Meter 16) (s t : State), Ready p s →
    s.running = false → s.commitFailure = none →
    (∀ i : Fin 8, tanks[i] = if s.tanks[i].used = true then { s.tanks[i] with
        node := if s.tanks[i].cfg.fitted = true then s.nodeOf (.tank i) else none
        soundingValid := false
        discDeadline := none
        state := some (if s.tanks[i].account.book ≤ s.tanks[i].cfg.empty * 1000 then .EMPTY
          else if s.tanks[i].account.book ≤ s.tanks[i].cfg.reserve * 1000 then .RESERVE
          else if s.tanks[i].account.book ≤ s.tanks[i].cfg.low * 1000 then .LOW
          else if s.tanks[i].cfg.high * 1000 ≤ s.tanks[i].account.book then .HIGH else .NORMAL) } else s.tanks[i]) →
    (∀ i : Fin 8, engines[i] = if s.engines[i].configured = true then { s.engines[i] with
        node := s.nodeOf (.engine i), standby := false, nodeAvailable := false, fault := none, derate := false
        tracking := false
        feed := if tanks[s.engines[i].cfg.feedTank].state = some .EMPTY then .EMPTY
          else if tanks[s.engines[i].cfg.feedTank].state = some .RESERVE then .RESERVE else .FED
        state := .LOST, eligible := false, aheadCap := 0, asternCap := 0, gear := .NEUTRAL
        rpm := s.engines[i].cfg.idleRpm, lastGear := none, dwell := none, confirm := none, confirmed := false
        trackDeadline := none, lastReport := none, reportAt := none } else s.engines[i]) →
    (∀ i : Fin 8, rudders[i] = if s.rudders[i].configured = true then { s.rudders[i] with
        node := s.nodeOf (.rudder i), nodeAvailable := false, jam := false, state := .LOST, target := 0, commanded := 0
        jamDeadline := none, lastAngle := none } else s.rudders[i]) →
    (∀ i : Fin 24, couplings[i] = if s.couplings[i].used = true then { s.couplings[i] with
        node := s.nodeOf (.winch i), state := .UNKNOWN, nodeAvailable := false, command := .BRAKE, lastTension := none
        lastDrum := none, reportAt := none, freshness := none, deadline := none } else s.couplings[i]) →
    (∀ i : Fin 16, meters[i] = if s.meters[i].used = true then { s.meters[i] with
        node := s.nodeOf (.meter i), nodeAvailable := false, heard := false, estimating := false, heldRack := 0
        rackHold := 0 } else s.meters[i]) →
    t = { s with
      levels := { s.levels with trip := lines }
      helm := { state := .UNCLAIMED, holder := none, requester := none, queryDeadline := none, silenceDeadline := none
                lastHolder := none, takeOvers := 0, policyL := .YIELD_ON_ANSWER, policyH := .YIELD_ON_ANSWER
                decayTimer := none }
      order := { thrust := 0, turn := 0, mode := .STOP }
      alloc := { passNumber := 0, tLim := 0, uLim := 0, ceilC := 1000, ceilK := 1000, mode := .STOP, wCfg := 0
                 wAvail := 0, deficit := 0, shares := Vector.replicate 8 0, gains := { lead := 0, helper := 0, bow := 0 }
                 lateral := 0, rounds := 0 }
      passTimer := some (s.now + ms 100), engineResult := none, rudderResult := none
      tanks := tanks, engines := engines, rudders := rudders, couplings := couplings, meters := meters
      tripLatch := lines
      steering := Steering.por
      ceilings := { c := 1000, k := 1000 }
      estimationTimer := some (s.now + ms 1000)
      lines := { a := s.lines.a.commit s.now, b := s.lines.b.commit s.now }
      phase := { phase := .RUNNING, seconds := 0, lastCommit := some .done, secondsTimer := some (s.now + ms 1000) } } →
    exec (.commitConfig p tag lines) s = .next ((if lines.lead = true ∨ lines.helper = true ∨ lines.bow = true
      then (t.post .PHASE_CHANGED).post .STATION_TRIPPED else t.post .PHASE_CHANGED).reply p tag .DONE []))
  ∧ ∀ (c d : LineCtl) (now : Nat) (cut : Link → Link),
    (∀ x, cut x = match c.link with
      | .sending start stop => .stopping start (min stop (start + ((now - start) / 440 + 1) * 440)) now
      | .stopping start stop _ => .stopping start stop now
      | _ => x) →
    d = { c with
      nodes := Vector.ofFn fun j : Fin 32 => c.nodes[j].map fun e => { e with state := .UNHEARD, failures := 0 }
      round := 0, position := none, attempt := none, lateTail := none, lineDown := false, handovers := [] } →
    ((∀ i : Fin 32, c.nodes[i] = none) → c.commit now = { d with
      activity := .IDLE, cursor := none, link := cut .idle })
    ∧ ∀ i : Fin 32, c.nodes[i] ≠ none → (∀ j < i, c.nodes[j] = none) →
      c.commit now = { d with activity := .POLLING, cursor := some i, link := cut (.due now) }

/-- R186, R23, R66, R79, R102, R119, R135, R168, R181: RECONFIGURE of the holder is refused NOT_READY unless the engines
and the movement channels are at rest; at rest it gives every block its reconfigure values, posts what changed, and
answers a claim in flight BAD_PHASE; what is not configured or not used is left as it is, and results and hand-overs not
yet taken are dropped (log 9), and a line keeps its round number (log 45). The seconds timer counts the running seconds, each restart from the moment of the expiry
(log 3). -/
def Obligations.ReconfigureAndSeconds : Prop :=
  (∀ (p : Port) (b : Bridge) (tag : Byte) (s : State), Ready p s → HoldsHelm p b s →
    (AtRest s → exec (.reconfigure p tag) s = .next ((s.heard.reconfigure).reply p tag .DONE []))
    ∧ (¬ AtRest s → exec (.reconfigure p tag) s = .next (s.heard.reply p tag .NOT_READY [])))
  ∧ (∀ (e r c l : Bool) (s t : State),
    (e = true ↔ ∃ i : Fin 8, s.engines[i].reconfigure.state ≠ s.engines[i].state) →
    (r = true ↔ ∃ i : Fin 8, s.rudders[i].reconfigure.state ≠ s.rudders[i].state) →
    (c = true ↔ ∃ i : Fin 24, s.couplings[i].reconfigure.state ≠ s.couplings[i].state) →
    (l = true ↔ s.ceilings ≠ { c := 1000, k := 1000 }) →
    t = ((((((s.reconfigureBlocks.post .PHASE_CHANGED).post .HELM_CHANGED).postIf e .ENGINE_CHANGED).postIf r
      .RUDDER_CHANGED).postIf c .COUPLING_CHANGED).postIf l .CEILING_CHANGED) →
    (s.helm.requester = none → s.reconfigure = t)
    ∧ ∀ (h q : Bridge) (x : Slot), QueryOpen h q x s →
      s.reconfigure = ((t.reply (portOfBridge q) x.tag .BAD_PHASE []).freed (portOfBridge q)))
  ∧ (∀ (n : Bool) (engines : Vector Engine 8) (rudders : Vector Rudder 8) (couplings : Vector Coupling 24)
      (meters : Vector Meter 16) (tanks : Vector Tank 8) (s : State),
    (n = true ↔ ∃ (l : Line) (i : Fin 32) (e : NodeEntry), (s.line l).nodes[i] = some e ∧ e.state ≠ .UNHEARD) →
    (∀ i : Fin 8, engines[i] = s.engines[i].reconfigure) → (∀ i : Fin 8, rudders[i] = s.rudders[i].reconfigure) →
    (∀ i : Fin 24, couplings[i] = s.couplings[i].reconfigure) → (∀ i : Fin 16, meters[i] = s.meters[i].reconfigure) →
    (∀ i : Fin 8, tanks[i] = s.tanks[i].reconfigure) →
    s.reconfigureBlocks = State.postIf n .NODE_CHANGED { s with
      helm := { state := .UNCLAIMED, holder := none, requester := none, queryDeadline := none, silenceDeadline := none
                lastHolder := none, takeOvers := s.helm.takeOvers, policyL := s.helm.policyL, policyH := s.helm.policyH
                decayTimer := none }
      order := { thrust := 0, turn := 0, mode := .STOP }
      passTimer := none, engineResult := none, rudderResult := none
      tripLatch := { lead := false, helper := false, bow := false }
      engines := engines, rudders := rudders, couplings := couplings, meters := meters, tanks := tanks
      ceilings := { c := 1000, k := 1000 }
      estimationTimer := none
      lines := { a := s.lines.a.reconfigure s.now, b := s.lines.b.reconfigure s.now }
      phase := { s.phase with phase := .CONFIGURING, secondsTimer := none } })
  ∧ (∀ (e : Engine) (r : Rudder) (c : Coupling) (m : Meter) (t : Tank) (y : LineCtl) (now : Nat),
    (e.configured = true → e.reconfigure = { e with
        nodeAvailable := false, eligible := false, aheadCap := 0, asternCap := 0
        state := if e.standby = true then .STANDBY else .LOST })
    ∧ (r.configured = true → r.reconfigure = { r with
        nodeAvailable := false, jamDeadline := none
        state := if r.jam = true then .JAMMED else .LOST })
    ∧ (c.used = true → c.reconfigure = { c with
        nodeAvailable := false, freshness := none, deadline := none
        state := if c.state.watched = true then .UNKNOWN else c.state
        command := if c.state.watched = true then .BRAKE else c.command })
    ∧ (m.used = true → m.reconfigure = { m with nodeAvailable := false, estimating := false, heldRack := 0, rackHold := 0 })
    ∧ (t.used = true → t.reconfigure = { t with soundingValid := false, discDeadline := none })
    ∧ (e.configured = false → e.reconfigure = e) ∧ (r.configured = false → r.reconfigure = r)
    ∧ (c.used = false → c.reconfigure = c) ∧ (m.used = false → m.reconfigure = m) ∧ (t.used = false → t.reconfigure = t)
    ∧ y.reconfigure now = { y with
        nodes := Vector.ofFn fun j : Fin 32 => y.nodes[j].map fun e => { e with state := .UNHEARD, failures := 0 }
        activity := .IDLE, position := none, attempt := none, lateTail := none, cursor := none, handovers := []
        link := match y.link with
          | .sending start stop => .stopping start (min stop (start + ((now - start) / 440 + 1) * 440)) now
          | .stopping start stop _ => .stopping start stop now
          | _ => .idle })
  ∧ (∀ (d : Nat) (s : State), s.inReset = false → s.phase.secondsTimer = some d → exec .secondsTimerExpiry s = .next
      { s with now := max s.now d
               phase := { s.phase with seconds := (s.phase.seconds + 1) % 2 ^ 32, secondsTimer := some (d + ms 1000) } })
  ∧ ∀ s : State, s.phase.secondsTimer = none → exec .secondsTimerExpiry s = .next s

/-- R187: the machine right after reset obeys every law of the part. -/
def Obligations.LawsHoldAtReset : Prop :=
  HelmLaw State.reset ∧ OrderLaw State.reset ∧ SlotLaw State.reset ∧ QueueLaw State.reset ∧ EngineLaw State.reset
    ∧ RudderLaw State.reset ∧ CouplingLaw State.reset ∧ CeilingLaw State.reset ∧ AccountLaw State.reset
    ∧ MovementLaw State.reset ∧ FlowLaw State.reset ∧ NodeLaw State.reset

/-- R2, R4, R6, R9, R20, R171 to R173: every step keeps the laws of the helm record, the order, the request slots and the
output queues. -/
def Obligations.StepKeepsCommandLaws : Prop :=
  ∀ s t : State, HelmLaw s → OrderLaw s → SlotLaw s → QueueLaw s → step s = .next t →
    HelmLaw t ∧ OrderLaw t ∧ SlotLaw t ∧ QueueLaw t

/-- R48, R52, R53, R70, R71, R73: every step keeps each engine slot as its conditions derive it, with an engine that is
not eligible in NEUTRAL, and each rudder slot likewise. -/
def Obligations.StepKeepsEngineLaws : Prop :=
  ∀ s t : State, EngineLaw s → RudderLaw s → step s = .next t → EngineLaw t ∧ RudderLaw t

/-- R80, R81, R85, R99, R102: every step keeps the winch command and the deadlines with the coupling states, and the
thrust ceiling low while a coupling is let go. -/
def Obligations.StepKeepsCouplingLaws : Prop :=
  ∀ s t : State, CouplingLaw s → CeilingLaw s → step s = .next t → CouplingLaw t ∧ CeilingLaw t

/-- R123, R137, R146, R151, R153: every step keeps the fuel equation, the exclusive claims, the bound of the record list,
and no movement running out of a low source or into a high destination. -/
def Obligations.StepKeepsFuelLaws : Prop :=
  ∀ s t : State, AccountLaw s → MovementLaw s → FlowLaw s → step s = .next t → AccountLaw t ∧ MovementLaw t ∧ FlowLaw t

/-- R164: every step keeps each node entry's failures in step with its state. -/
def Obligations.StepKeepsNodeLaw : Prop :=
  ∀ s t : State, NodeLaw s → step s = .next t → NodeLaw t
end

