-- ==== Sys2Proof/Laws/State.lean ====
section
/-! SUPPORT. What the updates of a state leave as they were: one conjunction of equations for each operation, which simp
takes apart, so that no later proof unfolds a record update. -/

namespace Sys2Proof.Machine

open Sys2Proof

/-! ## Blocks that stay the same -/

abbrev SameBase (s t : State) : Prop :=
  t.now = s.now ∧ t.choices = s.choices ∧ t.inReset = s.inReset ∧ t.levels = s.levels ∧ t.straps = s.straps
    ∧ t.pending = s.pending

abbrev SameHelm (s t : State) : Prop := t.helm = s.helm ∧ t.order = s.order

abbrev SameAlloc (s t : State) : Prop :=
  t.params = s.params ∧ t.alloc = s.alloc ∧ t.passTimer = s.passTimer ∧ t.rudderResult = s.rudderResult

abbrev SameEngines (s t : State) : Prop :=
  t.engines = s.engines ∧ t.tripLatch = s.tripLatch ∧ t.engineResult = s.engineResult

abbrev SameRudders (s t : State) : Prop := t.rudders = s.rudders ∧ t.steering = s.steering

abbrev SameCouplings (s t : State) : Prop := t.couplings = s.couplings ∧ t.ceilings = s.ceilings

abbrev SameMeters (s t : State) : Prop :=
  t.meters = s.meters ∧ t.totals = s.totals ∧ t.estimationTimer = s.estimationTimer

abbrev SameMovements (s t : State) : Prop :=
  t.channels = s.channels ∧ t.records = s.records ∧ t.nextMovement = s.nextMovement

/-- Everything but the fuel chain, the engines, the lines and the ports. -/
abbrev SameControl (s t : State) : Prop :=
  SameBase s t ∧ SameHelm s t ∧ SameAlloc s t ∧ SameRudders s t ∧ SameCouplings s t ∧ t.phase = s.phase

/-- The fuel chain. -/
abbrev SameFuel (s t : State) : Prop := SameMeters s t ∧ t.tanks = s.tanks ∧ SameMovements s t

/-- Everything but the ports. -/
abbrev OnlyPorts (s t : State) : Prop := SameControl s t ∧ SameFuel s t ∧ SameEngines s t ∧ t.lines = s.lines

/-- Everything but the lines. -/
abbrev OnlyLines (s t : State) : Prop := SameControl s t ∧ SameFuel s t ∧ SameEngines s t ∧ t.ports = s.ports

/-- Everything but the lines and the ports. -/
abbrev OnlyLinks (s t : State) : Prop := SameControl s t ∧ SameFuel s t ∧ SameEngines s t

/-- Everything but the engine slots, a waiting pass result and the ports. -/
abbrev OnlyEngines (s t : State) : Prop :=
  SameControl s t ∧ SameFuel s t ∧ t.tripLatch = s.tripLatch ∧ t.lines = s.lines

/-- Everything but the channels, the records and the ports. -/
abbrev OnlyChannels (s t : State) : Prop :=
  SameControl s t ∧ SameEngines s t ∧ SameMeters s t ∧ t.tanks = s.tanks ∧ t.nextMovement = s.nextMovement
    ∧ t.lines = s.lines

/-- What a change of a tank leaves as it was: everything but the tanks, the engine slots, a waiting pass result, the channels
and the ports. -/
abbrev OnlyTanks (s t : State) : Prop :=
  SameControl s t ∧ SameMeters s t ∧ t.tripLatch = s.tripLatch ∧ t.records = s.records
    ∧ t.nextMovement = s.nextMovement ∧ t.lines = s.lines

/-- What a booking leaves as it was: everything but the fuel chain, the engine slots, a waiting pass result and the ports. -/
abbrev OnlyFuel (s t : State) : Prop :=
  SameControl s t ∧ t.tripLatch = s.tripLatch ∧ t.estimationTimer = s.estimationTimer
    ∧ t.nextMovement = s.nextMovement ∧ t.lines = s.lines

/-- Everything but the rudders and the ports. -/
abbrev OnlyRudders (s t : State) : Prop :=
  SameBase s t ∧ SameHelm s t ∧ SameAlloc s t ∧ t.steering = s.steering ∧ SameCouplings s t ∧ t.phase = s.phase
    ∧ SameFuel s t ∧ SameEngines s t ∧ t.lines = s.lines

/-- Everything but the couplings, the ceilings and the ports. -/
abbrev OnlyCouplings (s t : State) : Prop :=
  SameBase s t ∧ SameHelm s t ∧ SameAlloc s t ∧ SameRudders s t ∧ t.phase = s.phase ∧ SameFuel s t ∧ SameEngines s t
    ∧ t.lines = s.lines

/-- Everything but the helm record and the ports. -/
abbrev OnlyHelm (s t : State) : Prop :=
  SameBase s t ∧ t.order = s.order ∧ SameAlloc s t ∧ SameRudders s t ∧ SameCouplings s t ∧ t.phase = s.phase
    ∧ SameFuel s t ∧ SameEngines s t ∧ t.lines = s.lines

/-! ## Values of ports, lines, stations and slots -/

@[simp] theorem PerPort.get_set {α : Type} (v : PerPort α) (p q : Port) (x : α) :
    (v.set p x).get q = if q = p then x else v.get q := by cases p <;> cases q <;> rfl

@[simp] theorem PerLine.get_set {α : Type} (v : PerLine α) (l m : Line) (x : α) :
    (v.set l x).get m = if m = l then x else v.get m := by cases l <;> cases m <;> rfl

@[simp] theorem get_set_station {α : Type} (v : PerStation α) (a b : Station) (x : α) :
    (v.set a x).get b = if b = a then x else v.get b := by cases a <;> cases b <;> rfl

/-- A slot of a table after another slot, or the same, has been set. -/
@[simp] theorem slot_set {α : Type} {n : Nat} (v : Vector α n) (i j : Fin n) (x : α) :
    (v.set i x)[j] = if i = j then x else v[j] := by
  simp only [Fin.getElem_fin, Vector.getElem_set, Fin.ext_iff]

/-- A slot of a table built slot by slot. -/
@[simp] theorem slot_ofFn {α : Type} {n : Nat} (f : Fin n → α) (j : Fin n) : (Vector.ofFn f)[j] = f j := by simp

/-! ## Events, replies and ports -/

@[simp] theorem post_keeps (k : EventKind) (s : State) : OnlyPorts s (s.post k) := by and_intros <;> rfl

@[simp] theorem postTo_keeps (p : Port) (k : EventKind) (s : State) : OnlyPorts s (s.postTo p k) := by
  and_intros <;> rfl

@[simp] theorem postIf_keeps (b : Bool) (k : EventKind) (s : State) : OnlyPorts s (s.postIf b k) := by
  cases b <;> and_intros <;> rfl

@[simp] theorem setPort_keeps (s : State) (p : Port) (r : PortRec) : OnlyPorts s (s.setPort p r) := by
  and_intros <;> rfl

@[simp] theorem modPort_keeps (s : State) (p : Port) (f : PortRec → PortRec) : OnlyPorts s (s.modPort p f) := by
  and_intros <;> rfl

@[simp] theorem reply_keeps (p : Port) (tag : Byte) (r : Result) (body : List Byte) (s : State) :
    OnlyPorts s (s.reply p tag r body) := by and_intros <;> rfl

@[simp] theorem port_setPort (s : State) (p q : Port) (r : PortRec) :
    (s.setPort p r).port q = if q = p then r else s.port q := by simp [State.port, State.setPort]

@[simp] theorem port_modPort (s : State) (p q : Port) (f : PortRec → PortRec) :
    (s.modPort p f).port q = if q = p then f (s.port p) else s.port q := by simp [State.modPort]

@[simp] theorem port_post (k : EventKind) (s : State) (p : Port) : (s.post k).port p = (s.port p).post k := by
  cases p <;> rfl

@[simp] theorem port_postIf (b : Bool) (k : EventKind) (s : State) (p : Port) :
    (s.postIf b k).port p = if b then (s.port p).post k else s.port p := by cases b <;> simp [State.postIf]

@[simp] theorem port_postTo (q p : Port) (k : EventKind) (s : State) :
    (s.postTo q k).port p = if p = q then (s.port p).post k else s.port p := by cases p <;> cases q <;> rfl

@[simp] theorem port_reply (p q : Port) (tag : Byte) (r : Result) (body : List Byte) (s : State) :
    (s.reply p tag r body).port q = if q = p then (s.port p).push s.now tag r body else s.port q := by
  simp [State.reply]

/-! ## The fields a post and a push leave -/

@[simp] theorem PortRec.post_keeps (k : EventKind) (r : PortRec) :
    (r.post k).rate = r.rate ∧ (r.post k).badCheck = r.badCheck ∧ (r.post k).truncated = r.truncated
      ∧ (r.post k).oversize = r.oversize ∧ (r.post k).busy = r.busy ∧ (r.post k).slot = r.slot
      ∧ (r.post k).replies = r.replies ∧ (r.post k).mask = r.mask ∧ (r.post k).receiver = r.receiver
      ∧ (r.post k).lastByte = r.lastByte ∧ (r.post k).incoming = r.incoming ∧ (r.post k).txDone = r.txDone := by and_intros <;> rfl

@[simp] theorem PortRec.push_keeps (now : Nat) (tag : Byte) (x : Result) (body : List Byte) (r : PortRec) :
    (r.push now tag x body).rate = r.rate ∧ (r.push now tag x body).badCheck = r.badCheck
      ∧ (r.push now tag x body).truncated = r.truncated ∧ (r.push now tag x body).oversize = r.oversize
      ∧ (r.push now tag x body).busy = r.busy ∧ (r.push now tag x body).slot = r.slot
      ∧ (r.push now tag x body).pending = r.pending ∧ (r.push now tag x body).mask = r.mask
      ∧ (r.push now tag x body).receiver = r.receiver ∧ (r.push now tag x body).lastByte = r.lastByte
      ∧ (r.push now tag x body).incoming = r.incoming := by
  and_intros <;> rfl

theorem PortRec.push_length (now : Nat) (tag : Byte) (x : Result) (body : List Byte) (r : PortRec) :
    (r.push now tag x body).replies.length = r.replies.length + 1 := by simp [PortRec.push]

/-! ## Lines -/

@[simp] theorem setLine_keeps (s : State) (l : Line) (c : LineCtl) : OnlyLines s (s.setLine l c) := by
  and_intros <;> rfl

@[simp] theorem modLine_keeps (s : State) (l : Line) (f : LineCtl → LineCtl) : OnlyLines s (s.modLine l f) := by
  and_intros <;> rfl

@[simp] theorem takeHandover_keeps (i : Instr) (s : State) : OnlyLines s (s.takeHandover i) := by and_intros <;> rfl

@[simp] theorem line_setLine (s : State) (l m : Line) (c : LineCtl) :
    (s.setLine l c).line m = if m = l then c else s.line m := by simp [State.line, State.setLine]

@[simp] theorem line_modLine (s : State) (l m : Line) (f : LineCtl → LineCtl) :
    (s.modLine l f).line m = if m = l then f (s.line l) else s.line m := by simp [State.modLine]

/-- A hand-over taken changes the waiting hand-overs of the lines alone. -/
@[simp] theorem line_takeHandover (i : Instr) (s : State) (l : Line) :
    (s.takeHandover i).line l = { s.line l with handovers := (s.line l).handovers.erase i } := by cases l <;> rfl

/-! ## Tables -/

@[simp] theorem setEngine_keeps (s : State) (i : Fin 8) (e : Engine) :
    OnlyEngines s (s.setEngine i e) ∧ (s.setEngine i e).ports = s.ports
      ∧ (s.setEngine i e).engineResult = s.engineResult ∧ (s.setEngine i e).engines = s.engines.set i e := by
  and_intros <;> rfl

@[simp] theorem setRudder_keeps (s : State) (i : Fin 8) (r : Rudder) :
    OnlyRudders s (s.setRudder i r) ∧ (s.setRudder i r).ports = s.ports
      ∧ (s.setRudder i r).rudders = s.rudders.set i r := by and_intros <;> rfl

@[simp] theorem setCoupling_keeps (s : State) (i : Fin 24) (c : Coupling) :
    OnlyCouplings s (s.setCoupling i c) ∧ (s.setCoupling i c).ceilings = s.ceilings
      ∧ (s.setCoupling i c).ports = s.ports ∧ (s.setCoupling i c).couplings = s.couplings.set i c := by
  and_intros <;> rfl

@[simp] theorem setMeter_keeps (s : State) (i : Fin 16) (m : Meter) :
    SameControl s (s.setMeter i m) ∧ SameEngines s (s.setMeter i m) ∧ SameMovements s (s.setMeter i m)
      ∧ (s.setMeter i m).tanks = s.tanks ∧ (s.setMeter i m).totals = s.totals
      ∧ (s.setMeter i m).estimationTimer = s.estimationTimer ∧ (s.setMeter i m).lines = s.lines
      ∧ (s.setMeter i m).ports = s.ports ∧ (s.setMeter i m).meters = s.meters.set i m := by and_intros <;> rfl

@[simp] theorem setTank_keeps (s : State) (i : Fin 8) (t : Tank) :
    SameControl s (s.setTank i t) ∧ SameEngines s (s.setTank i t) ∧ SameMovements s (s.setTank i t)
      ∧ SameMeters s (s.setTank i t) ∧ (s.setTank i t).lines = s.lines
      ∧ (s.setTank i t).ports = s.ports ∧ (s.setTank i t).tanks = s.tanks.set i t := by and_intros <;> rfl

@[simp] theorem setChannel_keeps (s : State) (i : Fin 2) (c : Channel) :
    OnlyChannels s (s.setChannel i c) ∧ (s.setChannel i c).records = s.records ∧ (s.setChannel i c).ports = s.ports
      ∧ (s.setChannel i c).channels = s.channels.set i c := by and_intros <;> rfl

/-! ## Time and the helm record -/

@[simp] theorem reach_keeps (t : Nat) (s : State) :
    (s.reach t).now = max s.now t ∧ (s.reach t).choices = s.choices ∧ (s.reach t).inReset = s.inReset
      ∧ (s.reach t).levels = s.levels ∧ (s.reach t).straps = s.straps ∧ (s.reach t).pending = s.pending
      ∧ SameHelm s (s.reach t) ∧ SameAlloc s (s.reach t) ∧ SameRudders s (s.reach t)
      ∧ SameCouplings s (s.reach t) ∧ (s.reach t).phase = s.phase ∧ SameFuel s (s.reach t)
      ∧ SameEngines s (s.reach t) ∧ (s.reach t).lines = s.lines ∧ (s.reach t).ports = s.ports := by
  and_intros <;> rfl

@[simp] theorem endQuery_keeps (s : State) :
    OnlyHelm s (endQuery s) ∧ (endQuery s).ports = s.ports
      ∧ (endQuery s).helm = { s.helm with state := .HELD, queryDeadline := none, requester := none } := by
  and_intros <;> rfl

/-- R17. -/
@[simp] theorem holderNotice_keeps (p : Port) (s : State) :
    OnlyHelm s (holderNotice p s) ∧ (holderNotice p s).ports = s.ports
      ∧ (holderNotice p s).helm.state = s.helm.state ∧ (holderNotice p s).helm.holder = s.helm.holder
      ∧ (holderNotice p s).helm.requester = s.helm.requester
      ∧ (holderNotice p s).helm.queryDeadline = s.helm.queryDeadline
      ∧ (holderNotice p s).helm.lastHolder = s.helm.lastHolder ∧ (holderNotice p s).helm.takeOvers = s.helm.takeOvers
      ∧ (holderNotice p s).helm.policyL = s.helm.policyL ∧ (holderNotice p s).helm.policyH = s.helm.policyH
      ∧ (holderNotice p s).helm.decayTimer = s.helm.decayTimer := by
  unfold holderNotice
  repeat' split
  all_goals and_intros <;> rfl

/-- R3. -/
@[simp] theorem changeHolder_keeps (st : HelmState) (h : Option Bridge) (s : State) :
    OnlyHelm s (changeHolder st h s) ∧ (changeHolder st h s).helm.state = st ∧ (changeHolder st h s).helm.holder = h
      ∧ (changeHolder st h s).helm.requester = none ∧ (changeHolder st h s).helm.queryDeadline = none
      ∧ (changeHolder st h s).helm.takeOvers = s.helm.takeOvers
      ∧ (changeHolder st h s).helm.policyL = s.helm.policyL
      ∧ (changeHolder st h s).helm.policyH = s.helm.policyH := by and_intros <;> rfl

end Sys2Proof.Machine
end

