-- ==== Sys2Proof/Laws/Bodies.lean ====
section
/-! SUPPORT. The lengths of the encodings of R188, and how the fields of a body lie one after another: a body that is the
concatenation of its fields is laid out with each at the sum of the lengths before it. -/

namespace Sys2Proof.Machine

open Sys2Proof

/-! ## Lengths -/

@[simp] theorem be_length (n v : Nat) : (be n v).length = n := by
  induction n with
  | zero => rfl
  | succ n ih => simp [be, ih]

@[simp] theorem beInt_length (n : Nat) (v : Int) : (beInt n v).length = n := be_length n _

@[simp] theorem flag_length (b : Bool) : (flag b).length = 1 := rfl

@[simp] theorem enumByte_length (n : Nat) : (enumByte n).length = 1 := rfl

/-- An optional field takes its presence byte and its width, where its encoding has that width. -/
theorem encOpt_length {α : Type} {n : Nat} {enc : α → List Byte} (h : ∀ x, (enc x).length = n) (o : Option α) :
    (encOpt n enc o).length = n + 1 := by
  cases o <;> simp [encOpt, h]

@[simp] theorem encDeadline_length (now : Nat) (d : Option Nat) : (encDeadline now d).length = 5 :=
  encOpt_length (fun _ => be_length 4 _) d

@[simp] theorem encNode_length (n : Option NodeRef) : (encNode n).length = 3 := by
  cases n <;> rfl

@[simp] theorem encTemp_length (t : Option Int) : (encTemp t).length = 2 := by cases t <;> rfl

@[simp] theorem encOpt_be_length (n : Nat) (o : Option Nat) : (encOpt n (be n) o).length = n + 1 :=
  encOpt_length (fun _ => be_length n _) o

@[simp] theorem encOpt_beInt_length (n : Nat) (o : Option Int) : (encOpt n (beInt n) o).length = n + 1 :=
  encOpt_length (fun _ => beInt_length n _) o

@[simp] theorem encOpt_index_length {n : Nat} (o : Option (Fin n)) : (encOpt 1 (fun i => be 1 i.val) o).length = 2 :=
  encOpt_length (fun i => be_length 1 i.val) o

@[simp] theorem encOpt_byte_length {α : Type} (f : α → Byte) (o : Option α) :
    (encOpt 1 (fun x => [f x]) o).length = 2 := by cases o <;> rfl

@[simp] theorem encStateDeadline_length (now : Nat) (o : Option StateDeadline) : (encStateDeadline now o).length = 6 := by
  cases o <;> rfl

theorem engineReportBody_length (r : EngineReport) : (engineReportBody r).length = 6 := rfl

theorem channelReportBody_length (r : ChannelReport) : (channelReportBody r).length = 4 := by
  simp [channelReportBody]

/-! ## Places -/

/-- The fields lie one after another from `start` to `stop`. -/
def Placed (start : Nat) : List (Nat × List Byte) → Nat → Prop
  | [], stop => start = stop
  | f :: fields, stop => f.1 = start ∧ Placed (start + f.2.length) fields stop

/-- What stands behind `head` is laid out from there on. -/
theorem laidOut_behind (fields : List (Nat × List Byte)) (stop : Nat) (head : List Byte)
    (h : Placed head.length fields stop) : LaidOut (head ++ (fields.map Prod.snd).flatten) stop fields := by
  induction fields generalizing head with
  | nil => exact ⟨by simpa [Placed] using h, by simp⟩
  | cons f fields ih =>
    obtain ⟨h1, h2⟩ := h
    obtain ⟨k1, k2⟩ := ih (head ++ f.2) (by simpa using h2)
    refine ⟨by simpa using k1, fun g hg => ?_⟩
    rcases List.mem_cons.mp hg with rfl | hg
    · simp [slice, h1]
    · simpa using k2 g hg

/-- A body that is its fields one after another is laid out so. -/
theorem laidOut_of_placed {fields : List (Nat × List Byte)} {stop : Nat} {body : List Byte}
    (hb : body = (fields.map Prod.snd).flatten) (h : Placed 0 fields stop) : LaidOut body stop fields := by
  simpa [hb] using laidOut_behind fields stop [] h

end Sys2Proof.Machine
end

