-- ==== Sys2Proof/Laws/Ops.lean ====
section
/-! SUPPORT. What the shared operations can do: for each, the blocks it leaves as they were and what it makes of the
others. A proof cites these and does not unfold the operations. -/

namespace Sys2Proof.Machine

open Sys2Proof

/-! ## Helm unit -/

@[simp] theorem answerClaim_keeps (b : Option Bridge) (r : Result) (s : State) : OnlyPorts s (answerClaim b r s) := by
  unfold answerClaim
  repeat' split
  all_goals and_intros <;> simp

@[simp] theorem grantRequester_keeps (s : State) :
    OnlyHelm s (grantRequester s) ∧ (grantRequester s).helm = (changeHolder .HELD s.helm.requester s).helm := by
  and_intros <;> simp [grantRequester]

/-! ## Engines -/

/-- R54, R58: a waiting pass result alone changes. -/
@[simp] theorem voidShares_keeps (lost : Fin 8 → Bool) (s : State) :
    OnlyEngines s (s.voidShares lost) ∧ (s.voidShares lost).engines = s.engines
      ∧ (s.voidShares lost).ports = s.ports
      ∧ (s.voidShares lost).engineResult =
        s.engineResult.map fun v : Vector Int 8 => Vector.ofFn fun i => if lost i then 0 else v[i] := by
  and_intros <;> rfl

/-- Where no slot has become ineligible, the waiting result stays. -/
@[simp] theorem voidShares_none (s : State) : (s.voidShares fun _ => false) = s := by
  simp [State.voidShares]

/-- Where one slot may have become ineligible. -/
theorem voidShares_one (i : Fin 8) (lost : Bool) (s : State) :
    (s.voidShares fun j => decide (j = i) && lost) =
      { s with engineResult :=
          if lost then s.engineResult.map fun v : Vector Int 8 => v.set i 0 else s.engineResult } := by
  cases lost with
  | false => simp
  | true =>
    have h : (fun v : Vector Int 8 => Vector.ofFn fun j : Fin 8 => if j = i then 0 else v[j]) = fun v => v.set i 0 := by
      funext v
      ext k hk
      simp [Vector.getElem_set, Fin.ext_iff, eq_comm]
    simpa [State.voidShares] using congrArg (fun g => s.engineResult.map g) h

/-- R48, R53: a slot updated is the slot settled under the trip latch of its station; nothing else but a waiting pass result
and the ports moves. -/
@[simp] theorem updateEngine_keeps (i : Fin 8) (f : Engine → Engine) (s : State) :
    OnlyEngines s (s.updateEngine i f)
      ∧ (s.updateEngine i f).engines =
        s.engines.set i ((f s.engines[i]).settle (s.tripLatch.get (f s.engines[i]).cfg.station) s.dwellEnd) := by
  and_intros <;> simp [State.updateEngine]

/-- R47, R48. -/
@[simp] theorem writeEngine_keeps (i : Fin 8) (cfg : Option EngineCfg) (s : State) :
    OnlyEngines s (s.writeEngine i cfg) ∧ (s.writeEngine i cfg).engines = s.engines.set i (s.engines[i].written cfg) := by
  and_intros <;> simp [State.writeEngine]

theorem onlyEngines_trans {s t u : State} (h : OnlyEngines s t) (k : OnlyEngines t u) : OnlyEngines s u := by
  and_intros <;> simp [h, k]

/-- R51. -/
@[simp] theorem feedChanged_keeps (t : Fin 8) (level : FeedLevel) (s : State) : OnlyEngines s (s.feedChanged t level) := by
  have h : ∀ (l : List (Fin 8)) (s : State), OnlyEngines s (l.foldl (fun s i =>
      if s.engines[i].fedBy t then s.updateEngine i (fun e => { e with feed := level }) else s) s) := by
    intro l
    induction l with
    | nil => intro s; and_intros <;> rfl
    | cons a l ih =>
      intro s
      rw [List.foldl_cons]
      refine onlyEngines_trans ?_ (ih _)
      split <;> and_intros <;> simp
  have h' := h (List.finRange 8) s
  rw [State.feedChanged]
  refine onlyEngines_trans h' ?_
  and_intros <;> simp

/-! ## Movements -/

@[simp] theorem stopChannel_keeps (i : Fin 2) (reason : StopReason) (s : State) :
    OnlyChannels s (s.stopChannel i reason) ∧ (s.stopChannel i reason).records = s.records
      ∧ (s.stopChannel i reason).ports = s.ports := by
  simp only [State.stopChannel]
  split <;> and_intros <;> simp

@[simp] theorem closeChannel_keeps (i : Fin 2) (s : State) : OnlyChannels s (s.closeChannel i) := by
  simp only [State.closeChannel]
  split <;> and_intros <;> simp

@[simp] theorem movementTankState_keeps (t : Fin 8) (st : TankState) (s : State) :
    OnlyChannels s (s.movementTankState t st) ∧ (s.movementTankState t st).records = s.records
      ∧ (s.movementTankState t st).ports = s.ports := by
  simp only [State.movementTankState, List.finRange_succ, List.finRange_zero, List.map_nil, List.map_cons,
    List.foldl_cons, List.foldl_nil]
  repeat' split
  all_goals and_intros <;> simp

/-! ## Tanks -/

@[simp] theorem bookFields_keeps (b : Booking) (v : Int) (i : Fin 8) (s : State) :
    OnlyTanks s (s.bookFields b v i) ∧ SameEngines s (s.bookFields b v i) ∧ SameMovements s (s.bookFields b v i)
      ∧ (s.bookFields b v i).ports = s.ports := by
  simp only [State.bookFields]
  split <;> and_intros <;> simp

@[simp] theorem discTest_keeps (i : Fin 8) (s : State) :
    OnlyTanks s (s.discTest i) ∧ SameEngines s (s.discTest i) ∧ SameMovements s (s.discTest i)
      ∧ (s.discTest i).ports = s.ports ∧ (s.discTest i).tanks = s.tanks.set i (s.tanks[i].discTest s.now) := by
  and_intros <;> simp [State.discTest]

/-- R127, R128: a derivation changes the tank's state alone among the tanks. -/
@[simp] theorem deriveTank_keeps (i : Fin 8) (s : State) : OnlyTanks s (s.deriveTank i) := by
  simp only [State.deriveTank]
  repeat' split
  all_goals and_intros <;> simp

@[simp] theorem bookTank_keeps (b : Booking) (v : Int) (i : Fin 8) (s : State) : OnlyTanks s (s.bookTank b v i) := by
  and_intros <;> simp [State.bookTank]

@[simp] theorem bookTransfer_keeps (v : Int) (src dst : Fin 8) (s : State) : OnlyTanks s (s.bookTransfer v src dst) := by
  and_intros <;> simp [State.bookTransfer]

@[simp] theorem bookMovementTanks_keeps (c : Channel) (q : Nat) (s : State) : OnlyTanks s (s.bookMovementTanks c q) := by
  simp only [State.bookMovementTanks]
  split <;> and_intros <;> simp

@[simp] theorem bookMovement_keeps (i : Fin 2) (q : Nat) (zero : Bool) (s : State) :
    OnlyFuel s (s.bookMovement i q zero) ∧ (s.bookMovement i q zero).meters = s.meters
      ∧ (s.bookMovement i q zero).totals = s.totals := by
  simp only [State.bookMovement]
  repeat' split
  all_goals and_intros <;> simp

@[simp] theorem deriveSounded_keeps (i : Fin 8) (s : State) : OnlyTanks s (s.deriveSounded i) := by
  simp only [State.deriveSounded]
  split <;> and_intros <;> simp

@[simp] theorem rebaseTank_keeps (i : Fin 8) (v : Int) (s : State) : OnlyTanks s (s.rebaseTank i v) := by
  and_intros <;> simp [State.rebaseTank]

@[simp] theorem writeTankLive_keeps (i : Fin 8) (src : StateSource) (limit : Nat) (s : State) :
    OnlyTanks s (s.writeTankLive i src limit) := by
  simp only [State.writeTankLive]
  repeat' split
  all_goals and_intros <;> simp

@[simp] theorem tankReport_keeps (i : Fin 8) (r : TankReport) (s : State) : OnlyTanks s (s.tankReport i r) := by
  and_intros <;> simp [State.tankReport]

@[simp] theorem tankNode_keeps (i : Fin 8) (st : NodeState) (s : State) : OnlyTanks s (s.tankNode i st) := by
  simp only [State.tankNode]
  split <;> and_intros <;> simp

/-! ## Meters -/

@[simp] theorem bookMetered_keeps (e : Fin 8) (net : Int) (s : State) :
    OnlyFuel s (s.bookMetered e net) ∧ (s.bookMetered e net).meters = s.meters
      ∧ (s.bookMetered e net).records = s.records := by
  and_intros <;> simp [State.bookMetered]

@[simp] theorem bookEstimated_keeps (e : Fin 8) (est : Nat) (s : State) :
    OnlyFuel s (s.bookEstimated e est) ∧ (s.bookEstimated e est).meters = s.meters
      ∧ (s.bookEstimated e est).records = s.records := by
  and_intros <;> simp [State.bookEstimated]

@[simp] theorem engineMeterReport_keeps (i : Fin 16) (r : MeterReport) (s : State) :
    OnlyFuel s (s.engineMeterReport i r) ∧ (s.engineMeterReport i r).records = s.records := by
  simp only [State.engineMeterReport]
  repeat' split
  all_goals and_intros <;> simp

@[simp] theorem strayFlow_keeps (i : Fin 16) (q : Nat) (s : State) :
    OnlyFuel s (s.strayFlow i q) ∧ SameMovements s (s.strayFlow i q) := by
  and_intros <;> simp [State.strayFlow]

@[simp] theorem flowMeterReport_keeps (i : Fin 16) (r : MeterReport) (s : State) : OnlyFuel s (s.flowMeterReport i r) := by
  simp only [State.flowMeterReport]
  repeat' split
  all_goals and_intros <;> simp

@[simp] theorem meterReport_keeps (i : Fin 16) (r : MeterReport) (s : State) : OnlyFuel s (s.meterReport i r) := by
  simp only [State.meterReport]
  repeat' split
  all_goals and_intros <;> simp

@[simp] theorem meterLost_keeps (i : Fin 16) (s : State) :
    OnlyFuel s (s.meterLost i) ∧ SameMovements s (s.meterLost i) ∧ (s.meterLost i).tanks = s.tanks
      ∧ SameEngines s (s.meterLost i) := by
  simp only [State.meterLost]
  split <;> and_intros <;> simp

@[simp] theorem meterNode_keeps (i : Fin 16) (st : NodeState) (s : State) :
    OnlyFuel s (s.meterNode i st) ∧ SameMovements s (s.meterNode i st) ∧ (s.meterNode i st).tanks = s.tanks
      ∧ SameEngines s (s.meterNode i st) := by
  simp only [State.meterNode]
  split <;> and_intros <;> simp

@[simp] theorem estimateSecond_keeps (i : Fin 16) (e : Fin 8) (s : State) :
    OnlyFuel s (s.estimateSecond i e) ∧ (s.estimateSecond i e).records = s.records := by
  simp only [State.estimateSecond, State.estimateAt, State.unaccounted]
  repeat' split
  all_goals and_intros <;> simp

theorem onlyFuel_trans {s t u : State} (h : OnlyFuel s t) (k : OnlyFuel t u) : OnlyFuel s u := by
  and_intros <;> simp [h, k]

@[simp] theorem estimateAll_keeps (s : State) : OnlyFuel s s.estimateAll ∧ s.estimateAll.records = s.records := by
  have h : ∀ (l : List (Fin 16)) (s t : State), t = l.foldl (fun s i =>
        match s.meters[i].used && s.meters[i].estimating, s.meters[i].cfg.engine with
        | true, some e => s.estimateSecond i e
        | _, _ => s) s → OnlyFuel s t ∧ t.records = s.records := by
    intro l
    induction l with
    | nil => rintro s t rfl; and_intros <;> rfl
    | cons a l ih =>
      intro s t ht
      rw [List.foldl_cons] at ht
      have k := ih _ _ ht
      split at k
      · refine ⟨onlyFuel_trans ?_ k.1, ?_⟩
        · and_intros <;> simp
        · simp [k.2]
      · exact k
  exact h (List.finRange 16) s _ rfl

/-! ## Rudders and couplings -/

/-- R70. -/
@[simp] theorem updateRudder_keeps (i : Fin 8) (f : Rudder → Rudder) (s : State) :
    OnlyRudders s (s.updateRudder i f)
      ∧ (s.updateRudder i f).rudders = s.rudders.set i { f s.rudders[i] with state := (f s.rudders[i]).derive } := by
  and_intros <;> simp [State.updateRudder]

/-- R69, R70. -/
@[simp] theorem writeRudder_keeps (i : Fin 8) (cfg : Option RudderCfg) (s : State) :
    OnlyRudders s (s.writeRudder i cfg) ∧ (s.writeRudder i cfg).rudders = s.rudders.set i (s.rudders[i].written cfg) := by
  and_intros <;> simp [State.writeRudder]

/-- R82, R85: an entry is written; the ceilings stay as they are (R102). -/
@[simp] theorem writeCoupling_keeps (i : Fin 24) (cfg : Option CouplingCfg) (s : State) :
    OnlyCouplings s (s.writeCoupling i cfg) ∧ (s.writeCoupling i cfg).ceilings = s.ceilings
      ∧ (s.writeCoupling i cfg).couplings = s.couplings.set i (s.couplings[i].written cfg) := by
  and_intros <;> simp [State.writeCoupling]

/-- R99, R100: the ceilings become those of the states as they stand. -/
@[simp] theorem publishCeilings_keeps (s : State) :
    OnlyCouplings s s.publishCeilings ∧ s.publishCeilings.couplings = s.couplings
      ∧ s.publishCeilings.ceilings = s.ceilingsNow := by
  and_intros <;> simp [State.publishCeilings]

/-- R85, R99: an entry enters a state, and the ceilings are those of the states just after. -/
@[simp] theorem enterCoupling_keeps (i : Fin 24) (c : Coupling) (st : CouplingState) (s : State) :
    OnlyCouplings s (s.enterCoupling i c st)
      ∧ (s.enterCoupling i c st).couplings = s.couplings.set i (c.enter st (s.entryDeadline st))
      ∧ (s.enterCoupling i c st).ceilings = (s.setCoupling i (c.enter st (s.entryDeadline st))).ceilingsNow := by
  and_intros <;> simp [State.enterCoupling, State.ceilingsNow]

@[simp] theorem loseSight_keeps (i : Fin 24) (c kept : Coupling) (s : State) : OnlyCouplings s (s.loseSight i c kept) := by
  simp only [State.loseSight]
  split <;> and_intros <;> simp

@[simp] theorem winchReport_keeps (i : Fin 24) (r : WinchReport) (s : State) : OnlyCouplings s (s.winchReport i r) := by
  simp only [State.winchReport]
  repeat' split
  all_goals and_intros <;> simp

@[simp] theorem winchNode_keeps (i : Fin 24) (up : Bool) (s : State) : OnlyCouplings s (s.winchNode i up) := by
  simp only [State.winchNode]
  split <;> and_intros <;> simp

/-! ## Field lines -/

@[simp] theorem settleEntry_keeps (l : Line) (i : Fin 32) (old e : NodeEntry) (s : State) :
    OnlyLinks s (s.settleEntry l i old e) := by
  simp only [State.settleEntry]
  split <;> and_intros <;> simp

@[simp] theorem pollGood_keeps (l : Line) (i : Fin 32) (e : NodeEntry) (r : NodeReport) (s : State) :
    OnlyLinks s (s.pollGood l i e r) := by
  and_intros <;> simp [State.pollGood]

@[simp] theorem attemptFailed_keeps (l : Line) (f : Failure) (s : State) : OnlyLinks s (s.attemptFailed l f) := by
  simp only [State.attemptFailed]
  repeat' split
  all_goals and_intros <;> simp

@[simp] theorem judge_keeps (l : Line) (i : Fin 32) (e : NodeEntry) (chars : List RxChar) (s : State) :
    OnlyLinks s (s.judge l i e chars) := by
  simp only [State.judge]
  split <;> and_intros <;> simp

@[simp] theorem endReception_keeps (l : Line) (s : State) : OnlyLinks s (s.endReception l) := by
  simp only [State.endReception]
  repeat' split
  all_goals and_intros <;> simp

@[simp] theorem closeWindow_keeps (l : Line) (s : State) : OnlyLinks s (s.closeWindow l) := by
  simp only [State.closeWindow]
  split <;> and_intros <;> simp

@[simp] theorem endFirst_keeps (l : Line) (s : State) : OnlyLinks s (s.endFirst l) := by
  simp only [State.endFirst]
  split <;> and_intros <;> simp

theorem LineCtl.modEntry_keeps (i : Fin 32) (f : NodeEntry → NodeEntry) (c : LineCtl) :
    c.modEntry i f = { c with nodes := (c.modEntry i f).nodes } := by
  simp only [LineCtl.modEntry, LineCtl.setEntry]
  split <;> rfl

/-- R160 to R162: a character received touches the counters, what is being received, and nothing else of its line. -/
theorem LineCtl.receive_keeps (ch : RxChar) (c : LineCtl) :
    c.receive ch = { c with
      nodes := (c.receive ch).nodes, strays := (c.receive ch).strays, link := (c.receive ch).link
      lateTail := (c.receive ch).lateTail } := by
  simp only [LineCtl.receive, LineCtl.lineStray, LineCtl.modEntry, LineCtl.setEntry]
  repeat' split
  all_goals rfl

/-- R154: a character received does not end a transmission or begin one. -/
theorem LineCtl.receive_driverEnabled (ch : RxChar) (c : LineCtl) : (c.receive ch).driverEnabled = c.driverEnabled := by
  simp only [LineCtl.receive, LineCtl.lineStray, LineCtl.modEntry, LineCtl.setEntry]
  repeat' split
  all_goals simp_all [LineCtl.driverEnabled]

@[simp] theorem charIn_keeps (l : Line) (t : Nat) (ch : RxChar) (s : State) : OnlyLines s (s.charIn l t ch) := by
  and_intros <;> simp [State.charIn]

/-- R155: a character that ends changes its line alone. -/
@[simp] theorem charEnds_keeps (l : Line) (s : State) : OnlyLines s (s.charEnds l) := by
  simp only [State.charEnds]
  repeat' split
  all_goals and_intros <;> simp

@[simp] theorem freeReceiver_keeps (l : Line) (s : State) : OnlyLines s (s.freeReceiver l) := by
  simp only [State.freeReceiver]
  repeat' split
  all_goals and_intros <;> simp

@[simp] theorem edge_keeps (l : Line) (x : CharSamples) (s : State) : OnlyLinks s (s.edge l x) := by
  simp only [State.edge]
  repeat' split
  all_goals and_intros <;> simp

@[simp] theorem transmit_keeps (l : Line) (s : State) : OnlyLines s (s.transmit l) := by
  simp only [State.transmit]
  repeat' split
  all_goals and_intros <;> simp

@[simp] theorem restartLine_keeps (l : Line) (s : State) : OnlyLinks s (s.restartLine l) := by
  simp only [State.restartLine]
  split <;> and_intros <;> simp

/-! ## How a command ends -/

/-- A command that is live answers a next state: in full reset the state as it was. -/
theorem live_eq (s : State) (f : State → State) : live s f = .next (if s.inReset then s else f s) := rfl

/-- A valid frame on a port that is ready is noticed, decided and answered. -/
theorem request_answered {p : Port} {tag code : Byte} {act : Act} {s t : State} {r : Result} {body : List Byte}
    (h : Ready p s) (ha : act (holderNotice p s) = (t, .answered r body)) :
    request p tag code act s = .next (t.reply p tag r body) := by
  obtain ⟨h1, h2, h3⟩ := h
  have hs : ((holderNotice p s).port p).slot = none := by simpa [State.port] using h3
  simp [request, live, h1, handleFrame, Nat.not_lt.mpr h2, hs, ha]

/-- A hand-over is taken in RUNNING. -/
theorem taken_running {i : Instr} {f : State → State} {s : State} (h : Running s) :
    taken i f s = .next (f (s.takeHandover i)) := by
  simp [taken, live, h.1, h.2]

/-- A deadline that is present expires. -/
theorem onExpiry_some (t : Nat) (f : Nat → State → State) (s : State) : onExpiry (some t) f s = f t (s.reach t) := rfl

/-- A deadline that is absent does not expire (R14). -/
theorem onExpiry_none (f : Nat → State → State) (s : State) : onExpiry none f s = s := rfl

end Sys2Proof.Machine
end

