-- ==== Sys2Proof/Laws/Requests.lean ====
section
/-! SUPPORT. What the shared parts of a request do: the notice to the helm unit, the answer to a claim in flight, and the
codes and indices read from a byte. -/

namespace Sys2Proof.Machine

open Sys2Proof

/-! ## Ports and bridges -/

theorem port_of_bridgeOf {p : Port} {b : Bridge} (h : bridgeOf p = some b) : p = portOfBridge b := by
  cases p <;> cases b <;> simp_all [bridgeOf, portOfBridge]

@[simp] theorem bridgeOf_portOfBridge (b : Bridge) : bridgeOf (portOfBridge b) = some b := by cases b <;> rfl

@[simp] theorem portOfBridge_eq {b r : Bridge} : portOfBridge b = portOfBridge r ↔ b = r := by
  cases b <;> cases r <;> simp [portOfBridge]

/-! ## The notice (R17) -/

theorem notice_holder {p : Port} {b : Bridge} {s : State} (h : bridgeOf p = some b) (hh : s.helm.holder = some b) :
    holderNotice p s = s.heard := by
  simp [holderNotice, h, hh, State.heard, State.after]

theorem notice_other {p : Port} {s : State} (h : ∀ b, bridgeOf p = some b → s.helm.holder ≠ some b) :
    holderNotice p s = s := by
  unfold holderNotice
  split
  · rfl
  · rename_i b hb
    simp [h b hb]

theorem notice_no_holder {p : Port} {s : State} (h : s.helm.holder = none) : holderNotice p s = s :=
  notice_other (by simp [h])

theorem notice_not_holder {p : Port} {b : Bridge} {s : State} (hb : bridgeOf p = some b) (hh : s.helm.holder ≠ some b) :
    holderNotice p s = s :=
  notice_other (by intro c hc; simp_all)

@[simp] theorem notice_E (s : State) : holderNotice .E s = s := rfl

@[simp] theorem port_notice (p q : Port) (s : State) : (holderNotice p s).port q = s.port q := by
  simp [State.port]

@[simp] theorem running_notice (p : Port) (s : State) : (holderNotice p s).running = s.running := by
  simp [State.running]

@[simp] theorem heard_keeps (s : State) :
    s.heard.running = s.running ∧ s.heard.inReset = s.inReset ∧ ∀ p, s.heard.port p = s.port p :=
  ⟨rfl, rfl, fun _ => rfl⟩

/-! ## A claim in flight (R172, R173) -/

theorem answerClaim_held {b : Bridge} {x : Slot} {r : Result} {s : State} (h : (s.port (portOfBridge b)).slot = some x) :
    answerClaim (some b) r s = (s.reply (portOfBridge b) x.tag r []).freed (portOfBridge b) := by
  simp [answerClaim, h, State.freed]

/-! ## Codes and indices (R188, R189) -/

@[simp] theorem policyOf_code (y : YieldPolicy) : policyOf (BitVec.ofNat 8 y.ctorIdx) = some y := by cases y <;> rfl

@[simp] theorem modeOf_code (m : Mode) : modeOf (BitVec.ofNat 8 m.ctorIdx) = some m := by cases m <;> rfl

@[simp] theorem portOf_code (p : Port) : portOf (BitVec.ofNat 8 p.ctorIdx) = some p := by cases p <;> rfl

@[simp] theorem lineOf_code (l : Line) : lineOf (BitVec.ofNat 8 l.ctorIdx) = some l := by cases l <;> rfl

@[simp] theorem stationOf_code (st : Station) : stationOf (BitVec.ofNat 8 st.ctorIdx) = some st := by cases st <;> rfl

@[simp] theorem parameterOf_code (x : Parameter) : parameterOf (BitVec.ofNat 8 x.ctorIdx) = some x := by cases x <;> rfl

theorem indexOf_fin {n : Nat} (h : n ≤ 256) (i : Fin n) : indexOf n (BitVec.ofNat 8 i.val) = some i := by
  have := i.isLt
  have h' : i.val % 256 = i.val := Nat.mod_eq_of_lt (by omega)
  simp [indexOf, h']

theorem indexOf_lt {n : Nat} {b : Byte} (h : b.toNat < n) : indexOf n b = some ⟨b.toNat, h⟩ := by simp [indexOf, h]

theorem indexOf_ge {n : Nat} {b : Byte} (h : n ≤ b.toNat) : indexOf n b = none := by
  simp only [indexOf]
  rw [dif_neg (by omega)]

theorem flagOf_ge {b : Byte} (h : 2 ≤ b.toNat) : flagOf b = none := by
  unfold flagOf
  split <;> simp_all

end Sys2Proof.Machine
end

