-- ==== Sys2Proof/Laws/Schedule.lean ====
section
/-! SUPPORT. What the schedule can do: which timers it lists, which of them are due, and the accessors its moments use. -/

namespace Sys2Proof.Machine

open Sys2Proof

/-- A timer that is absent is not listed; one that is present is, with its moment and its command. -/
@[simp] theorem mem_timed (t : Option Nat) (i : Instr) (d : Nat) (c : Instr) : (d, c) ∈ timed t i ↔ t = some d ∧ c = i := by
  cases t <;> simp [timed, eq_comm]

/-- `earliest` is the least moment of a list. -/
theorem eq_earliest (l : List (Nat × Instr)) (d : Nat) :
    some d = earliest l ↔ (∃ c, (d, c) ∈ l) ∧ ∀ x ∈ l, d ≤ x.1 := by
  induction l generalizing d with
  | nil => simp [earliest]
  | cons x xs ih =>
    obtain ⟨a, b⟩ := x
    simp only [earliest]
    cases h : earliest xs with
    | none =>
      have h' : xs = [] := by
        cases xs with
        | nil => rfl
        | cons y ys => simp [earliest] at h; split at h <;> simp at h
      subst h'
      simp
      omega
    | some t =>
      obtain ⟨⟨c, hc⟩, hm⟩ := (ih t).1 h.symm
      simp only [Option.some.injEq, List.mem_cons, Prod.mk.injEq, forall_eq_or_imp]
      constructor
      · rintro rfl
        refine ⟨?_, by omega, fun y hy => le_trans (min_le_right _ _) (hm y hy)⟩
        rcases le_total a t with h1 | h1
        · exact ⟨b, .inl ⟨by omega, rfl⟩⟩
        · exact ⟨c, .inr (by rwa [min_eq_right h1])⟩
      · rintro ⟨⟨c', h1⟩, h2, h3⟩
        have := h3 _ hc
        rcases h1 with ⟨h1, _⟩ | h1
        · simp at this
          omega
        · have := hm _ h1
          simp at *
          omega

/-- Due are the timers that have been reached and are the earliest, and what waits to be taken. -/
theorem mem_due (s : State) (c : Instr) :
    c ∈ s.due ↔ (∃ d, (d, c) ∈ s.timers ∧ d ≤ s.now ∧ ∀ x ∈ s.timers, d ≤ x.1) ∨ c ∈ s.offers := by
  unfold State.due
  simp only [List.mem_append, List.mem_map, List.mem_filter, decide_eq_true_eq, eq_earliest]
  refine or_congr ⟨?_, ?_⟩ Iff.rfl
  · rintro ⟨⟨d, c⟩, ⟨⟨h1, h2⟩, -, h4⟩, rfl⟩
    refine ⟨d, h1, h2, fun x hx => ?_⟩
    by_cases hr : x.1 ≤ s.now
    · exact h4 x ⟨hx, hr⟩
    · simp at h2
      omega
  · rintro ⟨d, h1, h2, h3⟩
    exact ⟨(d, c), ⟨⟨h1, h2⟩, ⟨c, h1, h2⟩, fun x hx => h3 x hx.1⟩, rfl⟩

/-- The entry being polled. -/
theorem polled_eq_some (c : LineCtl) (i : Fin 32) (e : NodeEntry) :
    c.polled = some (i, e) ↔ c.position = some i ∧ c.nodes[i] = some e := by
  unfold LineCtl.polled
  cases h : c.position with
  | none => simp
  | some j =>
    simp only [Option.map_eq_some_iff, Prod.mk.injEq, Option.some.injEq]
    constructor
    · rintro ⟨a, h1, rfl, rfl⟩
      exact ⟨rfl, h1⟩
    · rintro ⟨rfl, h⟩
      exact ⟨e, h, rfl, rfl⟩

/-- R81: the state deadline of a kind, where it is the one present. -/
theorem deadlineOf_eq_some (c : Coupling) (k : StateDeadlineKind) (d : Nat) :
    c.deadlineOf k = some d ↔ c.deadline = some ⟨k, d⟩ := by
  unfold Coupling.deadlineOf
  cases h : c.deadline with
  | none => simp
  | some x =>
    cases x
    simp

/-- A character is in progress exactly where it has a beginning. -/
theorem characterSince_eq_some (r : LineReceiver) (t : Nat) :
    r.characterSince = some t ↔ ∃ x risen, r = .sampling t x risen ∧ majority x.start = false := by
  cases r with
  | sampling a x b =>
    cases hm : majority x.start
    · simp only [LineReceiver.characterSince, hm, Bool.false_eq_true, if_false, Option.some.injEq]
      constructor
      · rintro rfl
        exact ⟨x, b, rfl, hm⟩
      · rintro ⟨x', b', h, -⟩
        cases h
        rfl
    · simp only [LineReceiver.characterSince, hm, if_true, reduceCtorEq, false_iff]
      rintro ⟨x', b', h, hf⟩
      cases h
      simp [hm] at hf
  | searching => simp [LineReceiver.characterSince]
  | waitingHigh => simp [LineReceiver.characterSince]

end Sys2Proof.Machine
end

