-- ==== Sys2Proof/Tests/Slice0.lean ====
section
/-! SUPPORT. Tests: the well-formedness checks with an ill-formed term for each; small worked examples of the spec; and for
each statement with hypotheses a state and operands that meet them, clause by clause. -/

namespace Sys2Proof.Tests

open Sys2Proof Sys2Proof.Machine

-- One theorem at a time: each evaluates a whole state, and many at once take a large stack each.
set_option Elab.async false

/-! ## Helpers -/

/-- The state after a command. -/
def after (c : Instr) (s : State) : State :=
  match exec c s with
  | .next t => t
  | _ => s

/-- The results queued at a port. -/
def results (p : Port) (s : State) : List Result := (s.port p).replies.map Reply.result

/-- The part in RUNNING, at time 1000. -/
def running : State :=
  { State.reset with
    now := 1000
    phase := { phase := .RUNNING, seconds := 7, lastCommit := some .done, secondsTimer := some 2304000 } }

/-- Bridge L holds the helm. -/
def held : State :=
  { running with
    helm := { Helm.por with state := .HELD, holder := some .L, silenceDeadline := some 6912000 }
    order := { thrust := 402, turn := -100, mode := .TRANSIT } }

/-- Bridge L holds, and bridge H waits for its answer. -/
def query : State :=
  { held with
    helm := { held.helm with state := .QUERY, requester := some .H, queryDeadline := some 23040000 }
    ports := { held.ports with h := { held.ports.h with slot := some { code := 0x01, tag := 9 } } } }

/-- The helm is free, and the thrust decays. -/
def holding : State :=
  { held with helm := { Helm.por with state := .HOLDING, lastHolder := some .L, decayTimer := some 230400 } }

/-- Full reset is in progress. -/
def inReset : State := State.reset.beginReset

/-- A reply. -/
def aReply : Reply := { tag := 1, result := .DONE, pending := 0, body := [] }

/-- Port L with some replies queued. -/
def queued (n : Nat) (s : State) : State :=
  s.modPort .L fun r => { r with replies := List.replicate n aReply, txDone := some 5000 }

/-- A configured engine, eligible, in a gear at a speed. -/
def engine (gear : Gear) (rpm : Nat) : Engine :=
  { Engine.fresh true EngineCfg.por (some { line := .A, address := 10 }) .FED with
    nodeAvailable := true, state := .ONLINE, eligible := true, aheadCap := 1000, asternCap := 700, gear := gear
    rpm := rpm }

/-- Slot 0 holds an engine. -/
def withEngine (e : Engine) (s : State) : State := s.setEngine 0 e

/-- A configured rudder. -/
def rudder (st : RudderState) (commanded : Int) : Rudder :=
  { Rudder.fresh true RudderCfg.por none with state := st, nodeAvailable := true, commanded := commanded }

/-- Slot 0 holds a rudder. -/
def withRudder (r : Rudder) (s : State) : State := s.setRudder 0 r

/-- A used coupling in a state. -/
def coupling (st : CouplingState) : Coupling :=
  { Coupling.fresh true CouplingCfg.por none with state := st, nodeAvailable := true, command := commandOf st }

/-- Entry 0 is a coupling. -/
def withCoupling (c : Coupling) (s : State) : State := s.setCoupling 0 c

/-- A used meter. -/
def meter (k : MeterKind) : Meter :=
  { Meter.fresh true { MeterCfg.por with kind := k, weight1 := 5, weight2 := 5 } none with
    heard := true, nodeAvailable := true
    ch1 := { MeterChannel.por with baseline := some 0 }, ch2 := { MeterChannel.por with baseline := some 0 } }

/-- Entry 0 is a meter. -/
def withMeter (m : Meter) (s : State) : State := s.setMeter 0 m

/-- A used tank with a book content and a state. -/
def tank (book : Int) (st : TankState) : Tank :=
  { Tank.por with
    used := true
    cfg := { TankCfg.por with
      capacity := 40000, high := 38000, low := 8000, reserve := 4000, empty := 800, hysteresis := 400, fitted := true }
    account := { Account.por with book := book, opening := book }, state := some st }

/-- An entry is a tank. -/
def withTank (i : Fin 8) (t : Tank) (s : State) : State := s.setTank i t

/-- A movement from tank 0 to tank 1 through meter 0. -/
def movement (st : ChannelState) : Channel :=
  { Channel.started { kind := .TRANSFER, source := some 0, destination := 1, meter := 0
                      pump := { line := .A, address := 40 }, mode := .COUNT, target := some 2 } 1 7 with
    state := st }

/-- Channel 0 holds a movement. -/
def withMovement (c : Channel) (s : State) : State := s.setChannel 0 c

/-- An entry at a position of line A. -/
def withNode (i : Fin 32) (e : NodeEntry) (s : State) : State := s.writeNode .A i (some e)

/-- Line A in what it does on its line, at position 0. -/
def withLink (k : Link) (a : Attempt) (s : State) : State :=
  s.modLine .A fun c => { c with
    link := k, position := some 0, attempt := some a, cursor := some 0, activity := .POLLING, lastChar := some 500 }

/-- Three equal samples. -/
def level (b : Bool) : Samples := { s1 := b, s2 := b, s3 := b }

/-- The clean samples of a character on a field line. -/
def char (mark : Bool) (d : Byte) : CharSamples :=
  { start := level false, data := Vector.ofFn fun i : Fin 8 => level (d.getLsbD i.val), mark := level mark
    stop := level true }

/-- The clean samples of a byte on a master link. -/
def byte (d : Byte) : ByteSamples :=
  { start := level false, data := Vector.ofFn fun i : Fin 8 => level (d.getLsbD i.val), stop := level true }

/-- Port L has been taking in a byte since a time. -/
def comingIn (since : Nat) (x : ByteSamples) (s : State) : State :=
  s.modPort .L fun r => { r with incoming := some { since := since, samples := x, levels := LineLevels.low } }

/-- The receiver of line A. -/
def listening (r : LineReceiver) (s : State) : State := s.modLine .A fun c => { c with receiver := r }

/-- A frame with the CRC that its bytes give, plus a number. -/
def frame (tag code : Byte) (params : List Byte) (off : Half) : RequestFrame :=
  { tag := tag, code := code, params := params
    crc := crc16 (coveredBytes { tag := tag, code := code, params := params, crc := 0 }) + off }

/-- A configuration at the ends of its ranges. -/
def engineCfg : EngineCfg where
  station := .BOW
  axis := .LATERAL
  side := .STARBOARD
  weight := 100
  idleRpm := 300
  maxRpm := 2500
  upRamp := 10
  downRamp := 1000
  asternLimit := 0
  economyCap := 1000
  ratedRate := 2000
  feedTank := 7
  meter := some 15

def noTrip : PerStation Bool := { lead := false, helper := false, bow := false }

/-! ## Well-formedness -/

theorem test_wf_engine_rpm : Instr.WellFormed (.engineReportTaken 0 ⟨65536, .NEUTRAL, 0, .NONE⟩) = false
    ∧ Instr.WellFormed (.engineReportTaken 0 ⟨65535, .NEUTRAL, 1000, .NONE⟩) = true := by decide
theorem test_wf_engine_rack : Instr.WellFormed (.engineReportTaken 0 ⟨0, .NEUTRAL, 1001, .NONE⟩) = false := by decide
theorem test_wf_rudder : Instr.WellFormed (.rudderReportTaken 0 32768) = false
    ∧ Instr.WellFormed (.rudderReportTaken 0 (-32769)) = false
    ∧ Instr.WellFormed (.rudderReportTaken 0 (-32768)) = true := by decide
theorem test_wf_winch : Instr.WellFormed (.winchReportTaken 0 ⟨2001, .NORMAL⟩) = false
    ∧ Instr.WellFormed (.winchReportTaken 0 ⟨2000, .NORMAL⟩) = true := by decide
theorem test_wf_meter_count : Instr.WellFormed (.meterReportTaken 0 ⟨⟨65536, none⟩, ⟨0, none⟩⟩) = false
    ∧ Instr.WellFormed (.meterReportTaken 0 ⟨⟨0, none⟩, ⟨65536, none⟩⟩) = false := by decide
theorem test_wf_meter_temperature : Instr.WellFormed (.meterReportTaken 0 ⟨⟨0, some (-32768)⟩, ⟨0, none⟩⟩) = false
    ∧ Instr.WellFormed (.meterReportTaken 0 ⟨⟨0, some 32768⟩, ⟨0, none⟩⟩) = false
    ∧ Instr.WellFormed (.meterReportTaken 0 ⟨⟨65535, some (-32767)⟩, ⟨0, some 32767⟩⟩) = true := by decide
theorem test_wf_tank : Instr.WellFormed (.tankReportTaken 0 ⟨16777216, true⟩) = false
    ∧ Instr.WellFormed (.tankReportTaken 0 ⟨16777215, true⟩) = true := by decide
theorem test_wf_pump_node : Instr.WellFormed (.movementNodeStateTaken (.pump .A 121) .ONLINE) = false
    ∧ Instr.WellFormed (.movementNodeStateTaken (.pump .A 120) .ONLINE) = true := by decide
theorem test_wf_pump_report : Instr.WellFormed (.pumpReportTaken .B 0 .RUNNING) = false
    ∧ Instr.WellFormed (.pumpReportTaken .B 1 .RUNNING) = true := by decide
theorem test_wf_frame : Instr.WellFormed (.requestFrameReceived .L ⟨0, 0, List.replicate 63 0, 0⟩ LineLevels.low) = false
    ∧ Instr.WellFormed (.requestFrameReceived .L ⟨0, 0, List.replicate 62 0, 0⟩ LineLevels.low) = true := by decide

/-! ## Decoding: no row of the table gives bits -/

theorem test_no_word_is_a_command : decodeTableWord 8 0 = none ∧ State.withFetchWord State.reset 8 0 = State.reset := by
  decide +kernel

/-! ## Worked examples of the spec -/

def nineBytes : List Byte := [0x31, 0x32, 0x33, 0x34, 0x35, 0x36, 0x37, 0x38, 0x39]

/-- 10.2. -/
theorem test_crc16 : crc16 nineBytes = 0x29B1 := by decide +kernel
/-- R159. -/
theorem test_crc8 : crc8 nineBytes = 0xF4 := by decide +kernel

def caseEngine (st : Station) (side : Side) (w ahead astern : Nat) (up : Bool) : Engine :=
  { Engine.fresh true { EngineCfg.por with station := st, side := side, weight := w } none .FED with
    aheadCap := ahead, asternCap := astern, eligible := up }

/-- 2.7, case 1. -/
def case1 : State :=
  { State.reset with
    engines := ((((State.reset.engines.set 0 (caseEngine .LEAD .PORT 30 1000 700 true)).set 1
      (caseEngine .LEAD .CENTRE 40 600 600 true)).set 2 (caseEngine .LEAD .STARBOARD 30 1000 700 true)).set 3
      (caseEngine .HELPER .PORT 25 1000 700 true)).set 4 (caseEngine .HELPER .STARBOARD 25 0 0 false)
    order := { thrust := 800, turn := 200, mode := .MANOEUVRE }
    params := { Params.por with diffGain := 300 }
    ceilings := { c := 700, k := 1000 } }

theorem test_allocation_case1 : (passRecord case1).shares.toList = [1000, 600, 892, 1000, 0, 0, 0, 0]
    ∧ (passRecord case1).tLim = 700 ∧ (passRecord case1).uLim = 200 ∧ (passRecord case1).wCfg = 150
    ∧ (passRecord case1).wAvail = 125 ∧ (passRecord case1).deficit = 0 ∧ (passRecord case1).rounds = 2
    ∧ (passRecord case1).lateral = 160 := by decide +kernel

/-- R110. -/
theorem test_factor_table : [factor 800 (some 485), factor 800 (some 520), factor 800 (some (-50)), factor 333 (some 151),
    factor 333 (some 149), factor 333 none] = [973200, 970400, 1016000, 999967, 1000033, 1000000] := by decide +kernel
/-- Worked standard volume, the supply channel of both reports. -/
theorem test_standard_volume :
    ((meter .ENGINE).ch1.count 5 800 1000 ⟨412, some 485⟩).q = 2004
    ∧ (({ MeterChannel.por with baseline := some 0, residue := 792000 }).count 5 800 1000 ⟨400, some 485⟩).q = 1947
    ∧ (({ MeterChannel.por with baseline := some 0, residue := 792000 }).count 5 800 1000
      ⟨400, some 485⟩).channel.residue = 192000 := by decide +kernel
/-- R108. -/
theorem test_delta_wraps : (({ MeterChannel.por with baseline := some 65400 }).count 1 0 65535 ⟨310, none⟩).delta = some 446 := by
  decide +kernel

/-- 3.11: the last ramp step. -/
theorem test_ramp : ({ engine .AHEAD 1664 with cfg := { EngineCfg.por with upRamp := 80 } }).applyShare 0 0 892
    = { engine .AHEAD 1670 with cfg := { EngineCfg.por with upRamp := 80 } } := by decide +kernel
/-- 3.12: pass 30 reaches idle, and pass 60 engages ASTERN. -/
theorem test_reversal : ((engine .AHEAD 620).applyShare 99 0 (-500)).gear = .NEUTRAL
    ∧ ((engine .AHEAD 620).applyShare 99 0 (-500)).dwell = some 99
    ∧ (({ engine .NEUTRAL 600 with lastGear := some .AHEAD, dwell := some 99 }).applyShare 0 7 (-500)).gear = .NEUTRAL
    ∧ (({ engine .NEUTRAL 600 with lastGear := some .AHEAD }).applyShare 0 7 (-500)).confirm = some 7 := by decide +kernel
/-- 4.8: 6.0 s and 6.8 s. -/
theorem test_rudder_slew : (((rudder .ONLINE 35).applyResult .TRANSIT true 100).commanded,
    ((rudder .ONLINE 3).applyResult .TRANSIT true 100).commanded,
    ((rudder .ONLINE 0).applyResult .TRANSIT false 100).target) = (31, 0, 35) := by decide +kernel
/-- R95. -/
theorem test_set_tension : results .L (after (.setTension .L 5 0 200 15) (withCoupling (coupling .MADE_UP) held)) = [.CLAMPED]
    ∧ (after (.setTension .L 5 0 200 15) (withCoupling (coupling .MADE_UP) held)).couplings[(0 : Fin 24)].cfg.target = 180 := by
  decide +kernel
/-- 7.7, steps 2 and 5. -/
theorem test_worked_account : deriveTankState (tank 0 .LOW).cfg 4000000 .LOW = .RESERVE
    ∧ deriveTankState (tank 0 .LOW).cfg 4300000 .RESERVE = .RESERVE
    ∧ deriveTankState (tank 0 .LOW).cfg 4400001 .RESERVE = .LOW
    ∧ deriveTankState (tank 0 .LOW).cfg 4600000 .NORMAL = .LOW := by decide +kernel
/-- Worked case of chapter 9: the states and failures of rounds 40 to 42, 48 and 56. -/
theorem test_node_lost :
    ((((NodeEntry.fresh (.meter 2) 11).good (.pump .RUNNING)).failed .TIMEOUT).state,
      (({ NodeEntry.fresh (.meter 2) 11 with state := .SUSPECT, failures := 2 }).failed .CHECK).state,
      (({ NodeEntry.fresh (.meter 2) 11 with state := .OFFLINE, failures := 3 }).failed .TIMEOUT).failures)
    = (.SUSPECT, .OFFLINE, 3) := by decide +kernel

/-! ## Witnesses: the machine and the ports -/

theorem witness_StepTakesFrontCommand :
    ({ State.reset with pending := [.readHelm .L 1, .fullReset] }).pending = .readHelm .L 1 :: [.fullReset] := by rfl
theorem witness_EveryStepGoesOn : State.reset.pending = [] ∧ State.reset.due = []
    ∧ ({ running with passTimer := some 1000 }).due = [.passTimerExpiry]
    ∧ ({ running with passTimer := some 1001 }).due = []
    ∧ ({ running with passTimer := some 1000, estimationTimer := some 999 }).due = [.estimationTimerExpiry]
    ∧ ({ running with passTimer := some 1000, estimationTimer := some 1000 }).due = [.passTimerExpiry, .estimationTimerExpiry]
    ∧ ({ running with engineResult := some (Vector.replicate 8 0) }).due = [.passResultTakenEngines] := by decide +kernel
/-- R162, R165: what is due on a line. -/
theorem test_due_on_a_line : (listening .searching (withLink (.window 1000 true .waiting) .FIRST running)).due = [.replyWindowClose .A]
    ∧ (listening (.sampling 560 (char true 1) false) running).due = [.fieldCharacterReceived .A .ends]
    ∧ (listening (.sampling 561 (char true 1) false) running).due = []
    ∧ (running.modLine .B fun c => { c with handovers := [.rudderReportTaken 0 5, .rudderReportTaken 0 6] }).due
      = [.rudderReportTaken 0 5] := by decide +kernel
theorem witness_FullReset : inReset.inReset = true ∧ State.reset.inReset = false
    ∧ (after (.resetEnd { rateL := true, rateH := false, rateE := false }) inReset).ports.l.rate = .r460800
    ∧ after (.readHelm .L 1) inReset = inReset := by decide +kernel
theorem witness_PostsAndAttention : State.reset.attention .L = true ∧ (Port.H ≠ Port.L)
    ∧ (after (.clearEvents .L 1 1) State.reset).attention .L = false := by decide +kernel
/-- R169: the byte 0x5A, which opens a reply, on the TXD output, and the output idle. -/
theorem witness_ReplyComposed : (queued 1 held |>.port .L).txDone = some 5000 ∧ (queued 1 held |>.port .L).replies = [aReply]
    ∧ aReply.bytes[0]? = some 0x5A ∧ 5000 - 10 * 20 * 7 + (0 * 10 + 9) * 20 ≤ 3780
    ∧ (List.range 10).map (fun k => (queued 1 held |>.port .L).txLevel (3600 + 20 * k + 19))
      = [false, false, true, false, true, true, false, true, false, true]
    ∧ (held.port .L).txDone = none ∧ (held.port .L).txLevel 3600 = true := by decide +kernel
theorem witness_FramesAtThePort_checks :
    crc16 (coveredBytes (frame 1 0x08 [] 0)) = (frame 1 0x08 [] 0).crc
    ∧ crc16 (coveredBytes (frame 1 0x08 [] 1)) ≠ (frame 1 0x08 [] 1).crc
    ∧ requestOf .L (frame 1 0x08 [] 0) LineLevels.low = some (.readHelm .L 1)
    ∧ requestOf .L (frame 1 0x3F [] 0) LineLevels.low = none ∧ requestOf .L (frame 1 0x08 [0] 0) LineLevels.low = none
    ∧ (frame 1 0x3F (List.replicate 62 0) 0).params.length ≤ 62 := by decide +kernel
theorem witness_FramesAtThePort_turned_away :
    5 < ((queued 6 held).port .L).replies.length ∧ ((queued 5 query).port .H).replies.length ≤ 5
    ∧ (query.port .H).slot ≠ none ∧ bridgeOf .L = some .L ∧ held.helm.holder = some .L
    ∧ requestFrom (.cancel .H 4) = some (.H, 4) ∧ requestFrom (.readHelm .H 4) = some (.H, 4)
    ∧ results .H (after (.readHelm .H 4) query) = [.BUSY] := by decide +kernel

/-- Port L in the middle of a frame. -/
def receiving (r : Receiver) (last : Nat) : State :=
  { State.reset with now := 10000 }.modPort .L fun p => { p with receiver := r, lastByte := last }

/-- Port L at the last byte of a READ_HELM. -/
def lastByteOf (since : Nat) : State :=
  comingIn since (byte ((frame 1 0x08 [] 0).crc.setWidth 8))
    (receiving (.body 2 [1, 8, ((frame 1 0x08 [] 0).crc >>> 8).setWidth 8]) 9000)

theorem witness_BytesMakeFrames : receiveByte (byte 0xA5) = (0xA5, false)
    ∧ (receiveByte { byte 0xA5 with stop := level false }) = (0xA5, true)
    ∧ (State.reset.port .L).receiver = .hunting ∧ (State.reset.port .L).incoming = none
    ∧ 5391 + ms 2 < 10000 ∧ ¬(5392 + ms 2 < 10000) ∧ majority (byte 0xA5).start = false ∧ majority (level true) = true
    ∧ ((receiving .started 5392).port .L).receiver = .started ∧ ((receiving .started 5392).port .L).incoming = none
    ∧ ((lastByteOf 9811).port .L).incoming.isSome = true ∧ 10000 < 9811 + Rate.stopDecided .r115200
    ∧ 9810 + Rate.stopDecided .r115200 ≤ 10000 ∧ (byteEnds .L LineLevels.low (lastByteOf 9810)).inReset = false
    ∧ ((byteEnds .L LineLevels.low (lastByteOf 9810)).port .L).incoming = none := by decide +kernel
theorem test_bytes_make_a_frame : results .L (after (.portByteReceived .L .ends LineLevels.low) (lastByteOf 9811)) = [.DONE]
    ∧ (after (.portByteReceived .L .ends LineLevels.low) (lastByteOf 9811)).now = 10011
    ∧ ((after (.portByteReceived .L .ends LineLevels.low) (comingIn 9900 (byte 0xA5) (receiving .hunting 0))).port .L).receiver = .started
    ∧ ((after (.portByteReceived .L .ends LineLevels.low) (comingIn 9900 { byte 0xA5 with start := level true }
      (receiving .hunting 0))).port .L).receiver = .hunting
    ∧ ((after (.portByteReceived .L (.edge (byte 1)) LineLevels.low) (receiving .started 5391)).port .L).truncated = 1
    ∧ ((after (.portByteReceived .L (.edge (byte 1)) LineLevels.low) (receiving .started 5392)).port .L).truncated = 0 := by
  decide +kernel
theorem witness_gaps_and_replies : ((receiving .started 5000).port .L).receiver ≠ .hunting
    ∧ ((comingIn 5100 (byte 1) (receiving .started 5000)).port .L).incoming.isSome = true
    ∧ after (.frameGapTimeout .L) (comingIn 5100 (byte 1) (receiving .started 5000))
      = comingIn 5100 (byte 1) (receiving .started 5000)
    ∧ ((queued 1 held).port .L).txDone = some 5000 ∧ ((queued 1 held).port .L).replies = [aReply]
    ∧ ((queued 2 held).port .L).replies = aReply :: aReply :: [] := by decide +kernel
theorem witness_PermissionPhaseAndHolder :
    Ready .E running ∧ Ready .H held ∧ Ready .L State.reset ∧ State.reset.running = false ∧ held.running = true
    ∧ requestFrom (.claimHelm .E 1) = some (.E, 1) ∧ helmRequest (.claimHelm .E 1) = true
    ∧ holderRequest (.reconfigure .H 1) = true ∧ held.helm.holder ≠ some .H
    ∧ fuelRequest (.retireMovement .L 1) = true ∧ fuelRunningRequest (.setFeed .E 1 0 0) = true
    ∧ configuringRequest (.commitConfig .L 1 noTrip) = true := by decide +kernel

/-! ## Witnesses: the helm -/

theorem helmLaw_of (s : State)
    (h : decide (s.helm.holder.isSome ↔ s.helm.state = .HELD ∨ s.helm.state = .QUERY)
      && decide (s.helm.requester.isSome ↔ s.helm.state = .QUERY)
      && decide (s.helm.requester.isSome → s.helm.requester ≠ s.helm.holder)
      && decide (s.helm.queryDeadline.isSome ↔ s.helm.state = .QUERY)
      && decide (s.helm.silenceDeadline.isSome ↔ s.helm.holder.isSome)
      && decide (s.helm.decayTimer.isSome ↔ s.helm.state = .HOLDING)
      && decide (s.running = false → s.helm.state = .UNCLAIMED) = true) : HelmLaw s := by
  simp only [Bool.and_eq_true, decide_eq_true_eq] at h
  obtain ⟨⟨⟨⟨⟨⟨h1, h2⟩, h3⟩, h4⟩, h5⟩, h6⟩, h7⟩ := h
  exact ⟨h1, h2, h3, h4, h5, h6, h7⟩

theorem witness_FreeHelmIsGranted : Ready .L running ∧ OnBridge .L .L running ∧ HelmLaw running
    ∧ running.helm.state = .UNCLAIMED ∧ HelmLaw holding ∧ holding.helm.state = .HOLDING ∧ OnBridge .H .H holding :=
  ⟨by decide +kernel, by decide +kernel, helmLaw_of _ (by decide +kernel), by decide +kernel,
    helmLaw_of _ (by decide +kernel), by decide +kernel, by decide +kernel⟩
theorem test_claim : results .L (after (.claimHelm .L 1) running) = [.GRANTED]
    ∧ results .H (after (.takeHelm .H 1 false) holding) = [.GRANTED]
    ∧ (after (.claimHelm .H 1) holding).order.thrust = 402 := by decide +kernel
theorem witness_ClaimByHolder : Ready .L held ∧ HoldsHelm .L .L held ∧ HoldsHelm .L .L query ∧ query.inReset = false
    ∧ QueryOpen .L .H { code := 0x01, tag := 9 } query ∧ Port.H = portOfBridge .H
    ∧ (query.port .H).replies.length ≤ 5 := by decide +kernel
theorem witness_ClaimAgainstHolder : Ready .H held ∧ OnBridge .H .H held ∧ held.helm.state = .HELD
    ∧ held.helm.policy .L = .YIELD_ON_ANSWER
    ∧ ({ held.helm with policyL := .YIELD_ALWAYS }).policy .L = .YIELD_ALWAYS
    ∧ ({ held.helm with policyL := .YIELD_NEVER }).policy .L = .YIELD_NEVER := by decide +kernel
/-- R171, 10.9: a BUSY reply goes out before the reply to the claim in flight (log 44). -/
theorem test_busy_before_the_claim :
    results .H (after (.cancel .H 4) (after (.readHelm .H 3) query)) = [.BUSY, .CANCELLED, .DONE] := by decide +kernel
theorem test_query_opens : (after (.claimHelm .H 9) held).helm.state = .QUERY
    ∧ ((after (.claimHelm .H 9) held).port .H).slot = some { code := 1, tag := 9 }
    ∧ results .H (after (.claimHelm .H 9) held) = [] := by decide +kernel
theorem witness_AnswerHelm : Ready .L query ∧ HoldsHelm .L .L query
    ∧ QueryOpen .L .H { code := 0x01, tag := 9 } query ∧ Ready .L held ∧ OnBridge .L .L held
    ∧ ¬(held.helm.state = .QUERY ∧ held.helm.holder = some .L) ∧ 2 ≤ (2 : Byte).toNat := by decide +kernel
theorem test_answer : results .H (after (.answerHelm .L 1 1) query) = [.GRANTED]
    ∧ (after (.answerHelm .L 1 1) query).helm.holder = some .H
    ∧ results .H (after (.answerHelm .L 1 0) query) = [.DECLINED]
    ∧ results .L (after (.answerHelm .L 1 0) query) = [.DONE] := by decide +kernel
theorem witness_CancelEndsQuery : Running query ∧ QueryOpen .L .H { code := 0x01, tag := 9 } query
    ∧ (query.port .H).replies.length ≤ 5 ∧ Ready .H held ∧ OnBridge .H .H held ∧ SlotLaw held ∧ Ready .E held :=
  ⟨by decide +kernel, by decide +kernel, by decide +kernel, by decide +kernel, by decide +kernel,
    ⟨by intro b; cases b <;> decide +kernel, by decide +kernel⟩, by decide +kernel⟩
theorem test_cancel : results .H (after (.cancel .H 4) query) = [.CANCELLED, .DONE]
    ∧ ((after (.cancel .H 4) query).port .H).slot = none := by decide +kernel
theorem witness_ReleaseHelm : Ready .L held ∧ HoldsHelm .L .L held ∧ held.helm.state = .HELD ∧ Ready .L query
    ∧ QueryOpen .L .H { code := 0x01, tag := 9 } query ∧ Ready .H held ∧ OnBridge .H .H held
    ∧ held.helm.holder ≠ some .H := by decide +kernel
theorem witness_TakeHelm : Ready .H held ∧ OnBridge .H .H held ∧ held.helm.state = .HELD ∧ held.helm.holder = some .L
    ∧ (after (.takeHelm .H 1 true) held).helm.takeOvers = 1
    ∧ results .H (after (.takeHelm .H 1 false) held) = [.NOT_PERMITTED] := by decide +kernel
theorem witness_YieldPolicyAndOrder : Ready .L held ∧ HoldsHelm .L .L held ∧ 3 ≤ (3 : Byte).toNat ∧ (2 : Byte).toNat ≤ 2
    ∧ held.helm.holder ≠ some .H
    ∧ results .L (after (.setOrder .L 1 1001 0 1) held) = [.CLAMPED]
    ∧ results .L (after (.setOrder .L 1 1000 0xFC18 2) held) = [.DONE] := by decide +kernel
theorem witness_HelmExpiries : query.helm.queryDeadline = some 23040000 ∧ query.helm.silenceDeadline = some 6912000
    ∧ held.helm.silenceDeadline = some 6912000 ∧ holding.helm.decayTimer = some 230400
    ∧ held.helm.queryDeadline = none ∧ held.helm.decayTimer = none ∧ running.helm.silenceDeadline = none
    ∧ (after .decayTimerExpiry holding).order.thrust = 397 := by decide +kernel

/-! ## Witnesses: the allocator -/

theorem witness_PassesOfTheAllocator : ({ case1 with passTimer := some 230400 }).passTimer = some 230400
    ∧ case1.passTimer = none ∧ case1.order.mode ≠ .STOP ∧ State.reset.order.mode = .STOP
    ∧ 0 < (passRecord case1).wCfg ∧ case1.engines[(2 : Fin 8)].cfg.side = .STARBOARD
    ∧ ({ engineCfg with side := .PORT }).axis = .LATERAL := by decide +kernel
theorem witness_SharesKeepCaps : (∀ i : Fin 8, case1.engines[i].fills = true → 1 ≤ case1.engines[i].cfg.weight)
    ∧ 0 < weightOf case1.engines Engine.fills ∧ weightOf State.reset.engines Engine.fills = 0
    ∧ (waterFill case1.engines 0 125).rounds = 1
    ∧ case1.engines[(4 : Fin 8)].fills = false ∧ case1.engines[(0 : Fin 8)].fills = true := by decide +kernel

/-! ## Witnesses: reads and writes of the tables -/

theorem witness_ReadsAnswer : Ready .E running
    ∧ readAnswer (holderNotice .E running) (.readEngine .E 1 7) =
      some (.DONE, Engine.por.body 1000 ++ State.reset.totals[(7 : Fin 8)].body)
    ∧ readAnswer running (.readEngine .E 1 8) = some (.BAD_INDEX, [])
    ∧ readAnswer running (.readCoupling .E 1 24) = some (.BAD_INDEX, [])
    ∧ readAnswer running (.readMeter .L 1 16 0) = some (.BAD_INDEX, [])
    ∧ (readAnswer running (.readLine .L 1 1 0)).isSome = true
    ∧ readAnswer running (.readNode .L 1 1 31 0) = some (.DONE, [0])
    ∧ readAnswer running (.readMovementRecord .L 1 0) = some (.BAD_INDEX, []) := by decide +kernel
theorem witness_BodyLayouts : ({ (movement .IDLE).record 9 with number := some 65535 }).number = some 65535
    ∧ (movement .IDLE).kind = some .TRANSFER ∧ (movement .IDLE).destination = some 1
    ∧ (movement .IDLE).mode = some .COUNT ∧ (movement .IDLE).startSecond = some 7
    ∧ ({ movement .IDLE with stopReason := some .STOPPED }).stopReason = some .STOPPED
    ∧ State.reset.phase.lastCommit = none ∧ running.phase.lastCommit = some .done
    ∧ (after (.commitConfig .E 1 noTrip) State.reset).phase.lastCommit = some (.invalid 1 none)
    ∧ settingIndex (Coupling.thrust Params.por) (withCoupling (coupling .RENDERING) running).couplings 300 = some 0
    ∧ settingIndex Coupling.turn running.couplings 300 = none
    ∧ phaseBody running = [1, 0, 0, 0, 7, 1, 0, 0, 0, 0, 0, 0]
    ∧ phaseBody (after (.commitConfig .E 1 noTrip) State.reset) = [0, 0, 0, 0, 0, 1, 24, 1, 0, 0, 0, 0] := by decide +kernel
theorem witness_ClearingReads : Ready .E running ∧ Ready .L running ∧ Port.L ≠ .E ∧ 24 ≤ (24 : Byte).toNat
    ∧ 2 ≤ (2 : Byte).toNat ∧ 16 ≤ (16 : Byte).toNat ∧ (0 : Byte) ≠ 1 ∧ 32 ≤ (32 : Byte).toNat ∧ 3 ≤ (3 : Byte).toNat
    ∧ results .L (after (.readMeter .L 1 16 2) running) = [.BAD_INDEX]
    ∧ results .E (after (.readPortStatus .E 1 3 1) running) = [.BAD_INDEX] := by decide +kernel
theorem test_peak_read_and_cleared :
    (after (.readPeak .E 1 0) (withCoupling { coupling .MADE_UP with peak := 300, lastTension := some 120 } running)).couplings[(0 : Fin 24)].peak
      = 120 := by decide +kernel
theorem witness_WriteParameters : Ready .L State.reset ∧ State.reset.running = false ∧ Ready .L held ∧ held.running = true
    ∧ Parameter.gearDwell.live = false ∧ Parameter.diffGain.live = true ∧ held.helm.holder = some .L
    ∧ held.helm.holder ≠ some .H ∧ 8 ≤ (8 : Byte).toNat
    ∧ results .L (after (.writeParameters .L 1 0 501) held) = [.CLAMPED]
    ∧ results .L (after (.writeParameters .L 1 5 99) State.reset) = [.BAD_VALUE] := by decide +kernel

theorem witness_WriteControlTables : Ready .E State.reset ∧ State.reset.running = false ∧ engineCfg.InRange
    ∧ EngineCfg.por.InRange ∧ RudderCfg.por.InRange ∧ CouplingCfg.por.InRange ∧ 8 ≤ (8 : Byte).toNat
    ∧ 24 ≤ (24 : Byte).toNat ∧ 2 ≤ (2 : Byte).toNat ∧ 2500 < (2501 : Half).toNat := by decide +kernel
theorem test_write_engine :
    (after (.writeEngine .E 1 7 1 engineCfg.params) State.reset).engines[(7 : Fin 8)].cfg = engineCfg
    ∧ results .E (after (.writeEngine .E 1 7 1 { engineCfg.params with weight := 101 }) State.reset) = [.BAD_VALUE]
    ∧ results .E (after (.writeEngine .E 1 8 1 engineCfg.params) State.reset) = [.BAD_INDEX]
    ∧ results .E (after (.writeEngine .E 1 0 1 engineCfg.params) running) = [.BAD_PHASE] := by decide +kernel
/-- R70, R85: a latch or a fault cleared by a write is a change of state; a write of the state that stands posts nothing. -/
theorem test_write_posts_a_change :
    ((after (.writeRudder .E 1 0 1 RudderCfg.por.params) (withRudder (rudder .JAMMED 0) State.reset)).port .L).pending
      = EventKind.single .RESTARTED ||| EventKind.single .RUDDER_CHANGED
    ∧ ((after (.writeCoupling .E 1 0 0 CouplingCfg.por.params) (withCoupling (coupling .WINCH_FAULT) State.reset)).port .H).pending
      = EventKind.single .RESTARTED ||| EventKind.single .COUPLING_CHANGED
    ∧ ((after (.writeEngine .E 1 0 0 EngineCfg.por.params) State.reset).port .E).pending
      = EventKind.single .RESTARTED := by decide +kernel
theorem witness_WriteFuelTablesAndNodes : MeterCfg.por.InRange ∧ TankCfg.por.InRange
    ∧ TankCfg.por.hysteresis = (none : Option Nat).getD (TankCfg.por.capacity / 100)
    ∧ (tank 0 .LOW).cfg.InRange ∧ (tank 0 .LOW).cfg.hysteresis = (some 400).getD 0 ∧ 16 ≤ (16 : Byte).toNat
    ∧ 32 ≤ (32 : Byte).toNat := by decide +kernel
theorem test_write_node : results .L (after (.writeNode .L 1 1 31 1 (nodeParams .pump 120)) State.reset) = [.DONE]
    ∧ results .L (after (.writeNode .L 1 1 31 1 (nodeParams .pump 121)) State.reset) = [.BAD_VALUE]
    ∧ results .L (after (.writeNode .L 1 2 31 1 (nodeParams .pump 1)) State.reset) = [.BAD_INDEX] := by decide +kernel

/-! ## Witnesses: engines -/

/-- A pass result waits, slot 0 in NEUTRAL. -/
def resultWaits : State :=
  { withEngine (engine .NEUTRAL 600) held with engineResult := some (Vector.replicate 8 500) }

theorem witness_EngineConditions : ((engine .NEUTRAL 600).rederive false).eligible = true
    ∧ ((engine .AHEAD 900).rederive true).eligible = false
    ∧ ({ engine .AHEAD 900 with feed := .RESERVE }).configured = true ∧ Engine.por.configured = false
    ∧ ((engine .AHEAD 900).settle true 5).gear = .NEUTRAL
    ∧ (resultWaits.updateEngine 0 fun e => { e with standby := true }).engineResult
      = some ((Vector.replicate 8 500).set 0 0) := by decide +kernel

def latched : Engine := { engine .AHEAD 900 with tracking := true, lastReport := some ⟨900, .AHEAD, 10, .WARNING⟩ }

theorem witness_StandbyAndReinstate : Ready .L held ∧ HoldsHelm .L .L held
    ∧ (withEngine latched held).engines[(0 : Fin 8)].configured = true
    ∧ (withEngine latched held).engines[(0 : Fin 8)].lastReport = some ⟨900, .AHEAD, 10, .WARNING⟩
    ∧ (engine .AHEAD 900).fault = none ∧ (engine .AHEAD 900).tracking = false
    ∧ held.engines[(0 : Fin 8)].configured = false ∧ 8 ≤ (8 : Byte).toNat := by decide +kernel
theorem test_reinstate : results .L (after (.reinstate .L 1 0) (withEngine latched held)) = [.DONE]
    ∧ results .L (after (.reinstate .L 1 0) (withEngine { latched with lastReport := none } held)) = [.NOT_READY] := by
  decide +kernel
theorem witness_Trips : running.running = true ∧ running.tripLatch.get .LEAD = false
    ∧ (running.tripLatch.set .LEAD true).get .LEAD = true ∧ noTrip.get .BOW = false
    ∧ (noTrip.set .BOW true).get .BOW = true ∧ 3 ≤ (3 : Byte).toNat
    ∧ (after (.tripLineAsserted .LEAD) (withEngine (engine .AHEAD 900) running)).engines[(0 : Fin 8)].gear = .NEUTRAL := by
  decide +kernel
theorem witness_EngineReportsTaken : Running (withEngine (engine .AHEAD 900) held)
    ∧ (withEngine (engine .AHEAD 900) held).engines[(0 : Fin 8)].configured = true
    ∧ (engine .AHEAD 900).gear ≠ .NEUTRAL ∧ ({ engine .AHEAD 900 with confirm := some 4 }).confirm = some 4
    ∧ ((1050 : Int) - 900).natAbs ≤ 150 ∧ 150 < ((1051 : Int) - 900).natAbs
    ∧ ({ engine .AHEAD 900 with confirmed := true }).confirmed = true
    ∧ ({ engine .AHEAD 900 with dwell := some 4, trackDeadline := some 5 }).trackDeadline = some 5
    ∧ (engine .AHEAD 900).trackDeadline = none := by decide +kernel
theorem witness_SharesMoveSetpoints :
    ({ held with engineResult := some (Vector.replicate 8 0) }).engineResult = some (Vector.replicate 8 0)
    ∧ held.engineResult = none ∧ 600 < 620 - max 1 (EngineCfg.por.downRamp / 10) + 1
    ∧ 620 - max 1 (EngineCfg.por.downRamp / 10) ≤ EngineCfg.por.idleRpm := by decide +kernel
/-- R54, R55, R58: a slot that was tripped after the pass's read, and is eligible again when the result is taken, receives
share 0 from it. -/
theorem test_share_of_a_tripped_slot :
    (after .passResultTakenEngines (after (.clearTrip .L 1 0 noTrip) (after (.tripLineAsserted .LEAD) resultWaits))).engines[(0 : Fin 8)].gear
      = .NEUTRAL
    ∧ (after (.clearTrip .L 1 0 noTrip) (after (.tripLineAsserted .LEAD) resultWaits)).engines[(0 : Fin 8)].eligible = true
    ∧ (after .passResultTakenEngines resultWaits).engines[(0 : Fin 8)].gear = .AHEAD := by decide +kernel
theorem witness_NoDirectReversal :
    (after .passResultTakenEngines { (withEngine (engine .AHEAD 620) held) with
      engineResult := some (Vector.replicate 8 (-500)) }).engines[(0 : Fin 8)].gear = .NEUTRAL
    ∧ (after .passResultTakenEngines { (withEngine (engine .NEUTRAL 600) held) with
      engineResult := some (Vector.replicate 8 (-500)) }).engines[(0 : Fin 8)].gear = .ASTERN
    ∧ (after .passResultTakenEngines { (withEngine (engine .NEUTRAL 600) held) with
      engineResult := some (Vector.replicate 8 500) }).engines[(0 : Fin 8)].gear = .AHEAD := by decide +kernel

/-! ## Witnesses: rudders -/

def jammed (a : Int) : Rudder := { rudder .JAMMED 210 with jam := true, lastAngle := some a }

theorem witness_RudderFaultsAndReports : (withRudder (jammed 160) held).rudders[(0 : Fin 8)].jam = true
    ∧ ((160 : Int) - 210).natAbs ≤ 50 ∧ 50 < ((159 : Int) - 210).natAbs ∧ Running (withRudder (rudder .ONLINE 210) held)
    ∧ (rudder .ONLINE 210).jamDeadline = none ∧ ({ rudder .ONLINE 210 with jamDeadline := some 5 }).jamDeadline = some 5
    ∧ held.rudders[(0 : Fin 8)].configured = false ∧ (rudder .LOST 0).state ≠ .ONLINE := by decide +kernel
theorem test_jam : results .L (after (.clearRudderFault .L 1 0) (withRudder (jammed 160) held)) = [.DONE]
    ∧ results .L (after (.clearRudderFault .L 1 0) (withRudder (jammed 150) held)) = [.NOT_READY]
    ∧ (after (.jamDeadlineExpiry 0) (withRudder { rudder .ONLINE 210 with jamDeadline := some 5 } held)).rudders[(0 : Fin 8)].state
      = .JAMMED := by decide +kernel
theorem witness_RuddersFollow : ({ held with rudderResult := some { uLim := 100, gains := ⟨0, 0, 0⟩, mode := .TRANSIT
                                                                    passNumber := 3 } }).rudderResult ≠ none
    ∧ held.rudderResult = none ∧ (4 - (0 : Int)).natAbs ≤ 4 ∧ (0 : Int) + 4 < 5 ∧ (-5 : Int) < 0 - 4 := by decide +kernel

/-! ## Witnesses: couplings -/

theorem witness_CouplingStateChange : (coupling .RENDERING).thrust Params.por = some 300
    ∧ (withCoupling (coupling .RELEASED) running).ceilingsNow = { c := 100, k := 500 }
    ∧ running.ceilingsNow = running.ceilings := by decide +kernel
theorem witness_CouplingRequests :
    HoldsHelm .L .L (withCoupling (coupling .SLACK) held) ∧ Ready .L (withCoupling (coupling .SLACK) held)
    ∧ (withCoupling (coupling .SLACK) held).couplings[(0 : Fin 24)].used = true
    ∧ held.couplings[(23 : Fin 24)].used = false ∧ 24 ≤ (24 : Byte).toNat
    ∧ (100 : Int).natAbs ≤ held.params.releaseThreshold ∧ held.params.releaseThreshold < (101 : Int).natAbs
    ∧ (coupling .MADE_UP).nodeAvailable = true ∧ CouplingCfg.por.ordered = true := by decide +kernel
theorem test_release_interlock :
    results .L (after (.releaseCoupling .L 1 0) (withCoupling (coupling .MADE_UP) held)) = [.DONE]
    ∧ results .L (after (.releaseCoupling .L 1 0) (withCoupling (coupling .MADE_UP)
      { held with alloc := { Allocation.por with tLim := -101 } })) = [.UNSAFE] := by decide +kernel
theorem witness_WinchReportsTaken : Running (withCoupling (coupling .MADE_UP) held)
    ∧ reportedState CouplingCfg.por ⟨250, .NORMAL⟩ .MADE_UP = some .STRAINED
    ∧ reportedState CouplingCfg.por ⟨249, .NORMAL⟩ .MADE_UP = none
    ∧ reportedState CouplingCfg.por ⟨19, .NORMAL⟩ .MADE_UP = none
    ∧ reportedState CouplingCfg.por ⟨104, .NORMAL⟩ .SLACK = none
    ∧ reportedState CouplingCfg.por ⟨105, .NORMAL⟩ .SLACK = some .MADE_UP := by decide +kernel
theorem test_slack_dwell :
    (after (.winchReportTaken 0 ⟨19, .NORMAL⟩) (withCoupling (coupling .MADE_UP) held)).couplings[(0 : Fin 24)].deadline
      = some { kind := .slackDwell, time := 1000 + ms 10000 } := by decide +kernel
theorem witness_CouplingLosses : held.couplings[(1 : Fin 24)].used = false
    ∧ ({ coupling .MAKING_UP with deadline := some { kind := .heave, time := 9 } }).deadline
      = some { kind := .heave, time := 9 }
    ∧ ({ coupling .MADE_UP with freshness := some 9 }).freshness = some 9 ∧ (coupling .MADE_UP).freshness = none
    ∧ (after (.freshnessDeadlineExpiry 0)
      (withCoupling { coupling .MADE_UP with freshness := some 9 } held)).couplings[(0 : Fin 24)].state = .UNKNOWN := by
  decide +kernel

/-! ## Witnesses: meters, tanks and the fuel account -/

def metered : State :=
  withTank 0 (tank 9000000 .NORMAL) (withEngine (engine .AHEAD 900)
    (withMeter { meter .ENGINE with cfg := { (meter .ENGINE).cfg with engine := some 0 } } held))

theorem witness_MeterReportsTaken : Running metered ∧ metered.meters[(0 : Fin 16)].used = true
    ∧ metered.meters[(0 : Fin 16)].estimating = false ∧ metered.meters[(0 : Fin 16)].cfg.kind = .ENGINE
    ∧ metered.meters[(0 : Fin 16)].cfg.engine = some 0
    ∧ ((meter .ENGINE).ch1.count 5 800 1000 ⟨1000, none⟩).excess = 0
    ∧ ((meter .ENGINE).ch1.count 5 800 1000 ⟨1001, none⟩).excess = 1
    ∧ (meter .TRANSFER).cfg.kind ≠ .ENGINE ∧ metered.meters[(1 : Fin 16)].used = false
    ∧ (movement .RUNNING).claimsMeter 0 = true ∧ (movement .IDLE).claimsMeter 0 = false := by decide +kernel
theorem test_meter_report_books :
    (after (.meterReportTaken 0 ⟨⟨412, some 485⟩, ⟨250, some 520⟩⟩) metered).tanks[(0 : Fin 8)].account.consumed = 791
    ∧ (after (.meterReportTaken 0 ⟨⟨412, some 485⟩, ⟨250, some 520⟩⟩) metered).totals[(0 : Fin 8)].metered = 791 := by
  decide +kernel
theorem witness_Estimation : metered.meters[(0 : Fin 16)].heard = true
    ∧ ({ metered with estimationTimer := some 2304000 }).estimationTimer = some 2304000 ∧ metered.estimationTimer = none
    ∧ metered.engines[(0 : Fin 8)].nodeAvailable = true
    ∧ ({ engine .AHEAD 900 with lastReport := some ⟨1, .AHEAD, 650, .NONE⟩ }).lastReport = some ⟨1, .AHEAD, 650, .NONE⟩
    ∧ ({ meter .ENGINE with rackHold := 1 }).rackHold = 1 ∧ (meter .ENGINE).rackHold = 0 := by decide +kernel
theorem test_estimation_begins : (after (.meterNodeStateTaken 0 .OFFLINE) metered).meters[(0 : Fin 16)].estimating = true
    ∧ (after (.meterNodeStateTaken 0 .OFFLINE) metered).meters[(0 : Fin 16)].rackHold = 60 := by decide +kernel
theorem witness_Bookings : metered.tanks[(0 : Fin 8)].used = true ∧ ((0 : Fin 8) ≠ 1)
    ∧ ({ Account.por with book := 2147483647 }).book' .received 1 =
      { Account.por with book := 2147483647, received := 1, saturated := true } := by decide +kernel
theorem witness_TankStates : metered.running = true
    ∧ deriveTankState (tank 0 .LOW).cfg metered.tanks[(0 : Fin 8)].levelUsed .NORMAL = .NORMAL
    ∧ deriveTankState (tank 0 .LOW).cfg (tank 8000000 .NORMAL).levelUsed .NORMAL = .LOW
    ∧ stepState (tank 0 .LOW).cfg 38000000 .NORMAL = some .HIGH
    ∧ stepState (tank 0 .LOW).cfg 37600000 .HIGH = none := by decide +kernel
/-- R51, R53, R58: the tank of an eligible slot becomes EMPTY while a pass result waits. -/
theorem test_share_of_a_starved_slot :
    (resultWaits.feedChanged 0 .EMPTY).engines[(0 : Fin 8)].state = .STARVED
    ∧ (resultWaits.feedChanged 0 .EMPTY).engineResult.map (fun v => v[(0 : Fin 8)]) = some 0
    ∧ (resultWaits.feedChanged 0 .EMPTY).engineResult.map (fun v => v[(1 : Fin 8)])
      = resultWaits.engineResult.map (fun v => v[(1 : Fin 8)])
    ∧ resultWaits.engineResult.map (fun v => v[(0 : Fin 8)]) ≠ some 0
    ∧ (resultWaits.feedChanged 0 .RESERVE).engineResult = resultWaits.engineResult := by decide +kernel
theorem witness_Soundings : Running metered ∧ metered.tanks[(0 : Fin 8)].used = true
    ∧ metered.tanks[(1 : Fin 8)].used = false
    ∧ ((9000000 : Int).tdiv 1000 - 8900).natAbs ≤ 100 ∧ 100 < ((9000000 : Int).tdiv 1000 - 8899).natAbs
    ∧ ({ tank 0 .LOW with discDeadline := some 5 }).discDeadline = some 5
    ∧ ({ tank 0 .LOW with sounding := some 4, soundingValid := true }).sounding = some 4 := by decide +kernel
theorem test_sounding_test_begins :
    (after (.tankReportTaken 0 ⟨8899, true⟩) metered).tanks[(0 : Fin 8)].discDeadline = some (1000 + ms 60000)
    ∧ (after (.tankReportTaken 0 ⟨8900, true⟩) metered).tanks[(0 : Fin 8)].discDeadline = none := by decide +kernel
theorem witness_FuelSettings : Ready .E metered ∧ metered.running = true ∧ 16 ≤ (16 : Byte).toNat ∧ 8 ≤ (8 : Byte).toNat
    ∧ 2 ≤ (2 : Byte).toNat ∧ (40000000 : BitVec 32).toNat ≤ (tank 0 .LOW).cfg.capacity * 1000
    ∧ (tank 0 .LOW).cfg.capacity * 1000 < (40000001 : BitVec 32).toNat
    ∧ (withMovement (movement .SETTLING) metered).channels[(0 : Fin 2)].state ≠ .IDLE := by decide +kernel
theorem test_rebase : results .E (after (.rebaseTank .E 1 0 ⟨1, 40000000⟩) metered) = [.DONE]
    ∧ results .E (after (.rebaseTank .E 1 0 ⟨1, 40000001⟩) metered) = [.BAD_VALUE]
    ∧ results .E (after (.rebaseTank .E 1 0 ⟨0, 0⟩) metered) = [.NOT_READY]
    ∧ results .E (after (.rebaseTank .E 1 0 ⟨1, 0⟩) (withMovement (movement .RUNNING) metered)) = [.TANK_BUSY] := by
  decide +kernel

/-! ## Witnesses: movements -/

/-- Two tanks, a transfer meter and a pump node. -/
def pumping : State :=
  withNode 1 { NodeEntry.fresh (.meter 0) 41 with state := .SUSPECT, failures := 2 }
    (withNode 0 { NodeEntry.fresh .pump 40 with state := .ONLINE }
      (withTank 1 (tank 20000000 .NORMAL) (withTank 0 (tank 9000000 .NORMAL)
        (withMeter { meter .TRANSFER with node := some { line := .A, address := 41 } } held))))

def startParams : MovementParams :=
  { kind := 0, source := ⟨1, 0⟩, destination := 1, meter := 0, pumpLine := 0, pumpAddress := 40, mode := 0
    target := ⟨1, 20000⟩ }

theorem witness_StartMovement : Ready .E pumping ∧ pumping.running = true ∧ pumping.channels[(1 : Fin 2)].state = .IDLE
    ∧ pumping.startOf 1 0 startParams = some { kind := .TRANSFER, source := some 0, destination := 1, meter := 0
                                               pump := { line := .A, address := 40 }, mode := .COUNT, target := some 20000 }
    ∧ pumping.startOf 1 0 { startParams with target := ⟨1, 0⟩ } = none
    ∧ (pumping.entryAt { line := .A, address := 40 }).isSome = true := by decide +kernel
theorem test_start_movement : results .E (after (.startMovement .E 1 0 startParams) pumping) = [.DONE]
    ∧ results .E (after (.startMovement .E 1 0 { startParams with target := ⟨1, 20001⟩ }) pumping) = [.NO_ROOM]
    ∧ results .E (after (.startMovement .E 1 2 startParams) pumping) = [.BAD_INDEX]
    ∧ results .E (after (.startMovement .E 1 1 startParams) (withMovement (movement .SETTLING) pumping)) = [.CLAIMED]
    ∧ results .E (after (.startMovement .E 1 0 startParams) (withMovement (movement .SETTLING) pumping))
      = [.CHANNEL_BUSY] := by decide +kernel
theorem test_start_movement_low_or_full :
    results .E (after (.startMovement .E 1 0 startParams) (withTank 0 (tank 9000000 .RESERVE) pumping)) = [.SOURCE_LOW]
    ∧ results .E (after (.startMovement .E 1 0 startParams)
      { pumping with records := List.replicate 16 (Channel.por.record 0) }) = [.LIST_FULL] := by decide +kernel
theorem witness_MovementBookings : (movement .RUNNING).mode = some .COUNT ∧ (movement .RUNNING).target = some 2
    ∧ 2 * 1000 ≤ ((movement .RUNNING).bookMoved 2000 false).moved
    ∧ ¬(2 * 1000 ≤ ((movement .RUNNING).bookMoved 1999 false).moved)
    ∧ ({ movement .SETTLING with zeroReports := 1 }.bookMoved 0 true).zeroReports = 2
    ∧ (movement .RUNNING).kind = some .TRANSFER ∧ (movement .RUNNING).source = some 0
    ∧ (movement .RUNNING).destination = some 1 := by decide +kernel
theorem test_movement_books :
    ((withMovement (movement .RUNNING) pumping).bookMovement 0 2000 false).channels[(0 : Fin 2)].stopReason = some .COUNT_REACHED
    ∧ ((withMovement (movement .RUNNING) pumping).bookMovement 0 2000 false).tanks[(1 : Fin 8)].account.transferIn = 2000 := by
  decide +kernel
theorem witness_MovementStops : Ready .L (withMovement (movement .RUNNING) pumping)
    ∧ (withMovement (movement .RUNNING) pumping).channels[(0 : Fin 2)].state = .RUNNING
    ∧ (movement .SETTLING).state = .SETTLING ∧ Channel.por.state = .IDLE ∧ 2 ≤ (2 : Byte).toNat
    ∧ (movement .RUNNING).claimsPump { line := .A, address := 40 } = true
    ∧ (movement .RUNNING).claimsPump { line := .B, address := 40 } = false
    ∧ ({ pumping with records := [Channel.por.record 0] }).records = [Channel.por.record 0]
    ∧ ({ movement .SETTLING with settling := some 5 }).settling = some 5 ∧ pumping.records = [] := by decide +kernel
theorem test_movement_closes :
    (after (.settlingDeadlineExpiry 0)
      (withMovement { movement .SETTLING with settling := some 5, moved := 9 } pumping)).records.map MovementRecord.moved = [9]
    ∧ (after (.movementNodeStateTaken (.meter 0) .OFFLINE) (withMovement (movement .RUNNING) pumping)).channels[(0 : Fin 2)].stopReason
      = some .METER_LOST := by decide +kernel

/-! ## Witnesses: field lines -/

/-- An ENGINE entry at position 0 of line A. -/
def polled (k : Link) (a : Attempt) : State :=
  withLink k a (withEngine (engine .AHEAD 1400) (withNode 0 (NodeEntry.fresh (.engine 0) 10) held))

theorem witness_LinePolls : (polled (.due 900) .FIRST |>.line .A).link = .due 900 ∧ (polled .idle .FIRST |>.line .A).link = .idle
    ∧ max 900 (500 + ms 1) ≤ 900 + ms 10 ∧ 900 + ms 10 < max 900 (22636 + ms 1)
    ∧ (polled (.due 900) .FIRST |>.line .A).nodes[(0 : Fin 32)] = some (NodeEntry.fresh (.engine 0) 10)
    ∧ (polled (.sending 5 9) .FIRST |>.line .A).link = .sending 5 9
    ∧ (polled (.stopping 2 9 5) .FIRST |>.line .A).link = .stopping 2 9 5
    ∧ ((listening (.sampling 5 (char true 1) false) (polled (.due 900) .FIRST)).line .A).receiver = .sampling 5 (char true 1) false
    ∧ majority (char true 1).start = false := by decide +kernel
/-- R162: a transmission due waits for the character in progress, and gives up after 10 ms. -/
theorem test_quiet_means_no_character :
    after (.pollTransmit .A) (listening (.sampling 5 (char true 1) false) (polled (.due 900) .FIRST))
      = listening (.sampling 5 (char true 1) false) (polled (.due 900) .FIRST)
    ∧ (after (.quietWaitTimeout .A) (listening (.sampling 5 (char true 1) false) (polled (.due 900) .FIRST))).now = 900 + ms 10 := by
  decide +kernel
/-- R154: the first character of the poll on the line. -/
theorem test_poll_bits :
    (List.range 11).map (fun k => ((after (.pollTransmit .A) (polled (.due 900) .RETRY)).line .A).txLevel (2804 + 40 * k + 39))
      = [false, false, true, false, true, false, false, false, false, true, true] := by decide +kernel
/-- R159, R191: the poll of the engine node 10 at 1400 rpm AHEAD. -/
theorem test_poll_characters :
    (pollChars (NodeEntry.fresh (.engine 0) 10) .FIRST ((polled .idle .FIRST).payloadFor .A (NodeEntry.fresh (.engine 0) 10))).map
      TxChar.data = [10, 1, 0x05, 0x78, 1, crc8 [10, 1, 0x05, 0x78, 1]] := by decide +kernel
/-- R154, R167: a transmission that is being cut short, and the idle level from its end on. -/
theorem test_cut_poll_bits :
    (List.range 12).map (fun k => ((after (.restartLine .L 1 0)
      { after (.pollTransmit .A) (polled (.due 900) .RETRY) with now := 2804 + 40 }).line .A).txLevel (2804 + 40 * k + 39))
      = [false, false, true, false, true, false, false, false, false, true, true, true]
    ∧ ((after (.restartLine .L 1 0) { after (.pollTransmit .A) (polled (.due 900) .RETRY) with now := 2804 + 40 }).line .A).link
      = .stopping 2804 (2804 + 440) 2844 := by decide +kernel
theorem witness_RestartLine : (polled .idle .FIRST |>.line .A).nodes[(0 : Fin 32)] ≠ none
    ∧ (∀ i : Fin 32, (held.line .A).nodes[i] = none) ∧ 2 ≤ (2 : Byte).toNat
    ∧ results .L (after (.restartLine .L 1 1) held) = [.DONE] := by decide +kernel
/-- A reply has begun. -/
def replying (chars : List RxChar) : State := polled (.window 99999 true (.reply chars)) .FIRST

/-- A character whose stop bit is low. -/
def heldLow : CharSamples := { char true 1 with stop := level false }

theorem witness_CharactersReceived : receiveChar (char true 138) = some ⟨138, true, false, false⟩
    ∧ receiveChar { char true 138 with start := level true } = none
    ∧ (polled (.sending 0 9) .FIRST |>.line .A).driverEnabled = true
    ∧ (polled (.due 5) .FIRST |>.line .A).driverEnabled = false ∧ (polled (.due 5) .FIRST |>.line .A).receiver = .searching
    ∧ (polled (.window 99999 true .waiting) .FIRST |>.line .A).endedBy 1000 = none
    ∧ (replying [⟨138, true, false, false⟩] |>.line .A).endedBy 2804 = none
    ∧ (replying [⟨138, true, false, false⟩] |>.line .A).endedBy 2805 = some (500 + ms 1 + 1)
    ∧ ((listening .waitingHigh (polled (.due 5) .FIRST)).line .A).receiver = .waitingHigh
    ∧ ((listening (.sampling 577 (char true 1) false) (polled (.due 5) .FIRST)).line .A).receiver = .sampling 577 (char true 1) false
    ∧ ((listening (.sampling 577 heldLow true) (polled (.due 5) .FIRST)).line .A).receiver = .sampling 577 heldLow true
    ∧ heldLow.stop.s3 = false ∧ (char true 1).stop.s3 = true ∧ 577 + 423 ≤ 1000 ∧ ¬(578 + 423 ≤ 1000) ∧ 982 + 18 ≤ 1000
    ∧ (polled (.window 99999 true (.late 2)) .FIRST |>.line .A).link = .window 99999 true (.late 2)
    ∧ (polled (.due 5) .FIRST |>.line .A).lateTail = none := by decide +kernel
theorem test_reply_begins :
    ((after (.fieldCharacterReceived .A .ends)
      (listening (.sampling 900 (char true 138) false) (polled (.window 99999 true .waiting) .FIRST))).line .A).link
      = .window 99999 true (.reply [⟨138, true, false, false⟩])
    ∧ (((after (.fieldCharacterReceived .A .ends)
      (listening (.sampling 900 (char true 139) false) (polled (.window 99999 true .waiting) .FIRST))).line .A).nodes[(0 : Fin 32)].map
        NodeEntry.stray) = some 1
    ∧ after (.fieldCharacterReceived .A (.edge (char true 138))) (polled (.sending 0 5000) .FIRST)
      = polled (.sending 0 5000) .FIRST := by decide +kernel
/-- R155: a line held low gives one character with a framing error, and no further one until it is high. -/
theorem test_line_held_low :
    ((after (.fieldCharacterReceived .A .ends) (listening (.sampling 900 { char false 0 with stop := level false } false)
      (polled .idle .FIRST))).line .A).receiver = .waitingHigh
    ∧ ((after (.fieldCharacterReceived .A (.edge (char true 138))) (listening .waitingHigh (polled .idle .FIRST))).line .A).receiver
      = .waitingHigh
    ∧ ((after (.fieldCharacterReceived .A .high) (listening .waitingHigh (polled .idle .FIRST))).line .A).receiver
      = .searching := by decide +kernel
/-- R155: a line that rises between sample 9 of a low stop bit and the end of the character is waited for no more, and one
that rises before that sample is. -/
theorem test_line_rises_within_the_stop_bit :
    ((after (.fieldCharacterReceived .A .ends) (after (.fieldCharacterReceived .A .high)
      (listening (.sampling 577 heldLow false) (polled .idle .FIRST)))).line .A).receiver = .searching
    ∧ ((after (.fieldCharacterReceived .A .ends) (after (.fieldCharacterReceived .A .high)
      (listening (.sampling 578 heldLow false) (polled .idle .FIRST)))).line .A).receiver = .waitingHigh
    ∧ ((after (.fieldCharacterReceived .A (.edge (char true 138)))
      (listening (.sampling 577 heldLow true) (polled .idle .FIRST))).line .A).receiver
      = .sampling 1000 (char true 138) false := by decide +kernel

/-- The rest of a late reply of that many characters comes in after its window. -/
def tail (n : Nat) (s : State) : State := s.modLine .A fun c => { c with lateTail := some (0, n) }

/-- R160: the rest of a late reply after its window; the entry's length is 9 (log 23). -/
theorem test_late_tail :
    ((after (.fieldCharacterReceived .A .ends) (tail 9 (listening (.sampling 900 (char false 1) false)
      (polled (.due 900) .FIRST)))).line .A).lateTail = some (0, 10)
    ∧ ((after (.fieldCharacterReceived .A .ends) (tail 10 (listening (.sampling 900 (char false 1) false)
      (polled (.due 900) .FIRST)))).line .A).lateTail = none
    ∧ ((after (.fieldCharacterReceived .A .ends) (tail 10 (listening (.sampling 900 (char false 1) false)
      (polled (.due 900) .FIRST)))).line .A).strays = 1
    ∧ ((tail 9 (polled (.due 900) .FIRST)).line .A).endedBy 2805 = some 2805
    ∧ ((after (.replyEnd .A) (tail 9 (polled (.due 900) .FIRST))).line .A).lateTail = none
    ∧ after (.replyEnd .A) (tail 9 (listening (.sampling 900 (char false 1) false) (polled (.due 900) .FIRST)))
      = tail 9 (listening (.sampling 900 (char false 1) false) (polled (.due 900) .FIRST)) := by decide +kernel

/-- The reply of the engine node 10: 1400 rpm, AHEAD, rack 650, no fault. -/
def goodReply : List RxChar :=
  ([138, 1, 0x05, 0x78, 1, 0x02, 0x8A, 0, crc8 [138, 1, 0x05, 0x78, 1, 0x02, 0x8A, 0]] : List Byte).mapIdx fun i d =>
    ⟨d, decide (i = 0), false, false⟩

theorem witness_AttemptOutcomes :
    judgeReply (NodeEntry.fresh (.engine 0) 10) .FIRST goodReply = some (.engine ⟨1400, .AHEAD, 650, .NONE⟩)
    ∧ judgeReply (NodeEntry.fresh (.engine 0) 10) .RETRY goodReply = none
    ∧ judgeReply (NodeEntry.fresh (.engine 0) 10) .FIRST (goodReply.take 8) = none
    ∧ (polled (.window 99999 true (.reply goodReply)) .FIRST |>.line .A).position = some 0
    ∧ goodReply.length = (Bound.engine 0).replyLength
    ∧ (replying goodReply |>.line .A).receiver.characterSince = none
    ∧ ((listening (.sampling 600 (char false 0) false) (replying goodReply)).line .A).receiver.characterSince = some 600
    ∧ (polled (.window 99999 false (.late 10)) .FIRST |>.line .A).link = .window 99999 false (.late 10)
    ∧ (Bound.engine 0).replyLength < 10 := by decide +kernel
/-- R161: a character that began within 1 ms of the one before keeps the reply open. -/
theorem test_reply_waits_for_a_character :
    after (.replyEnd .A) (listening (.sampling 2800 (char false 0) false) (replying goodReply))
      = listening (.sampling 2800 (char false 0) false) (replying goodReply) := by decide +kernel
theorem test_good_poll :
    ((after (.replyEnd .A) (polled (.window 99999 true (.reply goodReply)) .FIRST)).line .A).handovers
      = [.engineNodeStateTaken 0 .ONLINE, .engineReportTaken 0 ⟨1400, .AHEAD, 650, .NONE⟩] := by decide +kernel
theorem witness_PollOutcomes : (polled (.window 9 true .waiting) .FIRST |>.line .A).attempt = some .FIRST
    ∧ (polled (.window 9 true .waiting) .RETRY |>.line .A).attempt = some .RETRY
    ∧ ((after (.replyWindowClose .A) (polled (.window 9 true .waiting) .RETRY)).line .A).round = 1
    ∧ ((after (.replyWindowClose .A) (polled (.window 9 true .waiting) .RETRY)).line .A).cursor = some 0
    ∧ failedState 2 .SUSPECT = .SUSPECT ∧ failedState 3 .SUSPECT = .OFFLINE := by decide +kernel
/-- R158: where every entry is OFFLINE, rounds complete until one whose number is a multiple of 8. -/
theorem test_rounds_without_a_visit :
    (fun c : LineCtl => (c.round, c.roundsCompleted, c.cursor)) (LineCtl.endPoll 7 0 { (replying []).line .A with
      round := 3, nodes := Vector.ofFn fun i : Fin 32 =>
        if i = 0 then some { NodeEntry.fresh (.engine 0) 10 with state := .OFFLINE, failures := 3 } else none })
    = (8, 5, some 0) := by decide +kernel

/-! ## Witnesses: events and the phase -/

theorem witness_EventRequests : Ready .H State.reset ∧ (0x3FFFFF : BitVec 24).toNat < 2 ^ 22
    ∧ 2 ^ 22 ≤ (0x400000 : BitVec 24).toNat ∧ (0x3FFFFF : EventSet).toNat = (0x3FFFFF : BitVec 24).toNat
    ∧ results .H (after (.setEventMask .H 1 0x400000) State.reset) = [.BAD_VALUE] := by decide +kernel

/-- One engine, its tank and its node. -/
def ready : State :=
  withNode 0 (NodeEntry.fresh (.engine 0) 10) (withTank 0 { tank 9000000 .LOW with cfg := { (tank 0 .LOW).cfg with fitted := false } }
    (withEngine { engine .AHEAD 900 with node := none } State.reset))

theorem witness_CommitConfig : Ready .E ready ∧ ready.running = false ∧ ready.commitFailure = none
    ∧ State.reset.commitFailure = some (1, none)
    ∧ (withTank 0 Tank.por ready).commitFailure = some (2, some { table := .ENGINE, index := 0, position := 0 })
    ∧ (withNode 1 (NodeEntry.fresh (.engine 1) 11) ready).commitFailure
      = some (6, some { table := .NODE, index := 0, position := 1 })
    ∧ (withNode 1 (NodeEntry.fresh .pump 10) ready).commitFailure
      = some (7, some { table := .NODE, index := 0, position := 1 }) := by decide +kernel
/-- R184: an entry of line B, an object that no entry names, a meter and an engine that do not name each other, a weight. -/
theorem witness_CommitChecks :
    (ready.writeNode .B 2 (some (NodeEntry.fresh (.rudder 3) 11))).commitFailure
      = some (6, some { table := .NODE, index := 1, position := 2 })
    ∧ (ready.writeNode .B 2 (some (NodeEntry.fresh (.engine 0) 11))).commitFailure
      = some (6, some { table := .ENGINE, index := 0, position := 0 })
    ∧ (ready.setRudder 3 (rudder .LOST 0)).commitFailure = some (6, some { table := .RUDDER, index := 3, position := 0 })
    ∧ (ready.writeNode .B 2 (some (NodeEntry.fresh .pump 10))).commitFailure = none
    ∧ (withNode 1 (NodeEntry.fresh (.meter 0) 11) (withMeter (meter .ENGINE) ready)).commitFailure
      = some (8, some { table := .METER, index := 0, position := 0 })
    ∧ (withEngine { engine .AHEAD 900 with cfg := { EngineCfg.por with meter := some 4 } } ready).commitFailure
      = some (8, some { table := .ENGINE, index := 0, position := 0 })
    ∧ (withEngine { engine .AHEAD 900 with cfg := { EngineCfg.por with weight := 101 } } ready).commitFailure
      = some (9, some { table := .ENGINE, index := 0, position := 0 }) := by decide +kernel
theorem test_commit : results .E (after (.commitConfig .E 1 noTrip) ready) = [.DONE]
    ∧ (after (.commitConfig .E 1 noTrip) ready).engines[(0 : Fin 8)].state = .LOST
    ∧ (after (.commitConfig .E 1 noTrip) ready).engines[(0 : Fin 8)].node = some { line := .A, address := 10 }
    ∧ (after (.commitConfig .E 1 noTrip) ready).tanks[(0 : Fin 8)].state = some .NORMAL
    ∧ results .E (after (.commitConfig .E 1 noTrip) State.reset) = [.CONFIG_INVALID] := by decide +kernel
theorem witness_ReconfigureAndSeconds : HoldsHelm .L .L held ∧ Ready .L held ∧ AtRest held
    ∧ ¬ AtRest (withEngine (engine .AHEAD 900) held) ∧ ¬ AtRest (withMovement (movement .SETTLING) held)
    ∧ held.phase.secondsTimer = some 2304000 ∧ State.reset.phase.secondsTimer = none
    ∧ results .L (after (.reconfigure .L 1) held) = [.DONE]
    ∧ results .H (after (.reconfigure .L 1) query) = [.BAD_PHASE] := by decide +kernel
theorem test_seconds : (after .secondsTimerExpiry held).phase.seconds = 8
    ∧ (after .secondsTimerExpiry held).phase.secondsTimer = some (2304000 + ms 1000) := by decide +kernel

/-! ## Witnesses: the laws -/

/-- A command waits. -/
def waiting (c : Instr) (s : State) : State := { s with pending := [c] }

theorem witness_step (c : Instr) (s : State) (h : ∃ t, exec c { s with pending := [] } = .next t) :
    ∃ t, step (waiting c s) = .next t := h

theorem witness_StepKeepsCommandLaws : HelmLaw (waiting (.cancel .H 4) query) ∧ OrderLaw (waiting (.cancel .H 4) query)
    ∧ SlotLaw (waiting (.cancel .H 4) query) ∧ QueueLaw (waiting (.cancel .H 4) query)
    ∧ ∃ t, step (waiting (.cancel .H 4) query) = .next t := by
  refine ⟨helmLaw_of _ (by decide +kernel), ?_, ⟨?_, by decide +kernel⟩, ?_, ⟨_, rfl⟩⟩
  · unfold OrderLaw
    decide +kernel
  · intro b
    cases b <;> decide +kernel
  · intro p
    cases p <;> decide +kernel
theorem witness_StepKeepsEngineLaws :
    EngineLaw (withRudder (rudder .ONLINE 5) (withEngine (engine .AHEAD 900) (waiting (.tripLineAsserted .LEAD) held)))
    ∧ RudderLaw (withRudder (rudder .ONLINE 5) (withEngine (engine .AHEAD 900) (waiting (.tripLineAsserted .LEAD) held)))
    ∧ ∃ t, step (withRudder (rudder .ONLINE 5) (withEngine (engine .AHEAD 900)
      (waiting (.tripLineAsserted .LEAD) held))) = .next t := by
  refine ⟨?_, ?_, ⟨_, rfl⟩⟩
  · unfold EngineLaw
    decide +kernel
  · unfold RudderLaw
    decide +kernel

/-- A coupling let go, with the ceiling published for it. -/
def released : State :=
  waiting (.freshnessDeadlineExpiry 0) { withCoupling (coupling .RELEASED) held with ceilings := { c := 100, k := 500 } }

theorem witness_StepKeepsCouplingLaws : CouplingLaw released ∧ CeilingLaw released ∧ ∃ t, step released = .next t := by
  refine ⟨?_, ?_, ⟨_, rfl⟩⟩
  · have h : ∀ i : Fin 24, released.couplings[i].command = commandOf released.couplings[i].state
        ∧ released.couplings[i].deadline = none
        ∧ (released.couplings[i].used = false ↔ released.couplings[i].state = .UNUSED)
        ∧ (released.running = false → released.couplings[i].state.watched = false) := by decide +kernel
    intro i
    obtain ⟨h1, h2, h3, h4⟩ := h i
    exact ⟨h1, fun d hd => absurd (h2.symm.trans hd) (by simp), h3, h4⟩
  · unfold CeilingLaw
    decide +kernel

/-- A movement that runs. -/
def moving : State := waiting (.stopMovement .E 1 0) (withMovement (movement .RUNNING) pumping)

theorem witness_StepKeepsFuelLaws : AccountLaw moving ∧ MovementLaw moving ∧ FlowLaw moving
    ∧ ∃ t, step moving = .next t := by
  refine ⟨?_, ⟨by decide +kernel, by decide +kernel, by decide +kernel, ?_, by decide +kernel⟩, ?_, ⟨_, rfl⟩⟩
  · unfold AccountLaw
    decide +kernel
  · intro r h
    have hi : moving.channels[1].isOpen = false := by decide +kernel
    simp [Channel.claimsPump, hi] at h
  · unfold FlowLaw
    decide +kernel
theorem witness_StepKeepsNodeLaw : NodeLaw moving ∧ ∃ t, step moving = .next t := by
  refine ⟨?_, ⟨_, rfl⟩⟩
  intro l i e he
  have h : ∀ i : Fin 32, ((moving.line l).nodes[i].all failuresFit) = true := by cases l <;> decide +kernel
  have := h i
  rw [he] at this
  simpa using this

end Sys2Proof.Tests
end

section
/-! SUPPORT. The helm statements O10 to O14: how the port takes a request from the holder, from another bridge and behind a
claim in flight; what each helm request decides; and the statements, put together from these. -/

namespace Sys2Proof.Machine

open Sys2Proof

variable {p : Port} {b r h : Bridge} {x : Slot} {tag code : Byte} {act : Act} {s t : State} {res : Result}
  {body : List Byte}

/-! ## The request that a helm command carries (log 4) -/

theorem exec_claimHelm : exec (.claimHelm p tag) s = request p tag 0x01 (decideClaimHelm p) s := rfl

theorem exec_answerHelm (choice : Byte) :
    exec (.answerHelm p tag choice) s = request p tag 0x02 (decideAnswerHelm p choice) s := rfl

theorem exec_cancel : exec (.cancel p tag) s = request p tag cancelCode (decideCancel p) s := rfl

theorem exec_releaseHelm : exec (.releaseHelm p tag) s = request p tag 0x04 (decideReleaseHelm p) s := rfl

theorem exec_takeHelm (line : Bool) : exec (.takeHelm p tag line) s = request p tag 0x05 (decideTakeHelm p line) s := rfl

/-! ## How the port takes a request (R17, R172, R173) -/

/-- R17: a request of the holder is decided with the silence deadline restarted. -/
theorem request_by_holder (hr : Ready p s) (hh : HoldsHelm p b s) (ha : act s.heard = (t, .answered res body)) :
    request p tag code act s = .next (t.reply p tag res body) := by
  obtain ⟨⟨hp, -⟩, hb⟩ := hh
  exact request_answered hr (by rwa [notice_holder hp hb])

/-- R17: a request of a bridge that is not the holder is decided in the state as it stands. -/
theorem request_by_other (hr : Ready p s) (hp : bridgeOf p = some b) (hh : s.helm.holder ≠ some b)
    (ha : act s = (t, .answered res body)) : request p tag code act s = .next (t.reply p tag res body) :=
  request_answered hr (by rwa [notice_not_holder hp hh])

/-- R172, item 6: a request that the block holds back stays in the slot of its port. -/
theorem request_held (hr : Ready p s) (ha : act (holderNotice p s) = (t, .held)) :
    request p tag code act s = .next (t.modPort p fun q => { q with slot := some { code := code, tag := tag } }) := by
  obtain ⟨hreset, hlen, hslot⟩ := hr
  simp [request, live, hreset, handleFrame, Nat.not_lt.mpr hlen, hslot, ha]

/-- R172, item 3: behind a claim in flight a request other than CANCEL is counted as busy and answered BUSY. -/
theorem request_busy (hreset : s.inReset = false) (hlen : (s.port p).replies.length ≤ 5)
    (hslot : (s.port p).slot = some x) (hcode : code ≠ cancelCode) (hn : holderNotice p s = s) :
    request p tag code act s = .next
      ((s.setPort p { s.port p with busy := min 65535 ((s.port p).busy + 1) }).reply p tag .BUSY []) := by
  simp [request, live, hreset, handleFrame, Nat.not_lt.mpr hlen, hslot, hcode, hn, State.modPort, bump16, satAdd]

/-- R172, item 3: CANCEL is decided whether or not a claim is in flight on its port. -/
theorem request_cancel_answered (hreset : s.inReset = false) (hlen : (s.port p).replies.length ≤ 5)
    (ha : act (holderNotice p s) = (t, .answered res body)) :
    request p tag cancelCode act s = .next (t.reply p tag res body) := by
  simp [request, live, hreset, handleFrame, Nat.not_lt.mpr hlen, ha]

/-! ## A bridge in RUNNING (R4) -/

theorem bridgeInRunning_on (f : Bridge → Act) (hb : OnBridge p b s) : bridgeInRunning p f s = f b s := by
  simp [bridgeInRunning, hb.1, hb.2]

theorem onBridge_notice (q : Port) (hb : OnBridge p b s) : OnBridge p b (holderNotice q s) := by
  rwa [OnBridge, running_notice]

theorem holdsHelm_heard (hh : HoldsHelm p b s) : HoldsHelm p b s.heard := hh

theorem queryOpen_heard (hq : QueryOpen b r x s) : QueryOpen b r x s.heard := hq

/-- R9: the pending requester does not hold the helm, so its frames give no notice. -/
theorem notice_requester (hq : QueryOpen b r x s) : holderNotice (portOfBridge r) s = s := by
  obtain ⟨-, hholder, -, hne, -⟩ := hq
  exact notice_not_holder (bridgeOf_portOfBridge r) (by simpa [hholder] using hne.symm)

/-! ## The change of holder and the end of a query (R3, R9) -/

/-- R3: a change of holder from bridge to bridge gives the record `passedTo`, whatever the notice left in it. -/
theorem changeHolder_passed (hh : s.helm.holder = some b) :
    changeHolder .HELD (some r) s = State.post .HELM_CHANGED { s with helm := s.helm.passedTo r b s.now } := by
  simp [changeHolder, hh, Helm.passedTo, State.after]

/-- R10, R13, R15: a query that ends in favour of the requester. -/
theorem grantRequester_of_queryOpen (hq : QueryOpen b r x s) :
    grantRequester s = ((State.post .HELM_CHANGED { s with helm := s.helm.passedTo r b s.now }).reply
      (portOfBridge r) x.tag .GRANTED []).freed (portOfBridge r) := by
  obtain ⟨-, hholder, hreq, -, hslot⟩ := hq
  have hslot' : ((changeHolder .HELD (some r) s).port (portOfBridge r)).slot = some x := by
    rw [changeHolder_passed hholder, port_post, ← hslot]
    rfl
  rw [grantRequester, hreq, answerClaim_held hslot', changeHolder_passed hholder]

/-- R9: a query that ends with the holder unchanged, and the claim answered. -/
theorem answerClaim_endQuery (res : Result) (hq : QueryOpen b r x s) :
    answerClaim s.helm.requester res (endQuery s) = (({ s with helm := s.helm.queryOver }).reply
      (portOfBridge r) x.tag res []).freed (portOfBridge r) := by
  obtain ⟨-, -, hreq, -, hslot⟩ := hq
  rw [hreq]
  exact answerClaim_held hslot

/-! ## What the helm requests decide -/

/-- R7. -/
theorem decideClaimHelm_by_holder (hh : HoldsHelm p b s) : decideClaimHelm p s = answer .DONE s := by
  rw [decideClaimHelm, bridgeInRunning_on _ hh.1]
  simp [hh.2]

/-- R16. -/
theorem decideTakeHelm_by_holder (line : Bool) (hh : HoldsHelm p b s) : decideTakeHelm p line s = answer .DONE s := by
  rw [decideTakeHelm, bridgeInRunning_on _ hh.1]
  simp [hh.2]

/-- R8: in HELD the claim of the other bridge goes to the holder's yield policy. -/
theorem decideClaimHelm_against (hb : OnBridge p b s) (hst : s.helm.state = .HELD) (hh : s.helm.holder = some h)
    (hne : h ≠ b) : decideClaimHelm p s = claimAgainst h b s := by
  rw [decideClaimHelm, bridgeInRunning_on _ hb]
  simp [hh, hne, hst]

/-- R10: the holder's answer in QUERY. -/
theorem decideAnswerHelm_by_holder {choice : Byte} {accept : Bool} (hc : choiceOf choice = some accept)
    (hh : HoldsHelm p b s) (hst : s.helm.state = .QUERY) :
    decideAnswerHelm p choice s = doneWith (if accept then grantRequester else declineQuery) s := by
  rw [decideAnswerHelm, bridgeInRunning_on _ hh.1]
  simp [orElse, hc, hst, hh.2]

/-- R10: an answer outside a query, or from the other bridge. -/
theorem decideAnswerHelm_nothing {choice : Byte} {accept : Bool} (hc : choiceOf choice = some accept)
    (hb : OnBridge p b s) (hn : ¬(s.helm.state = .QUERY ∧ s.helm.holder = some b)) :
    decideAnswerHelm p choice s = answer .NOTHING_PENDING s := by
  rw [decideAnswerHelm, bridgeInRunning_on _ hb]
  simp only [orElse, hc, if_neg hn]

/-- R4, R188: a choice of another value. -/
theorem decideAnswerHelm_badValue {choice : Byte} (hc : choiceOf choice = none) (hb : OnBridge p b s) :
    decideAnswerHelm p choice s = answer .BAD_VALUE s := by
  rw [decideAnswerHelm, bridgeInRunning_on _ hb]
  simp only [orElse, hc]

/-- R11: CANCEL of the pending requester. -/
theorem decideCancel_by_requester (hb : OnBridge p r s) (hq : QueryOpen b r x s) :
    decideCancel p s = doneWith cancelQuery s := by
  obtain ⟨hst, -, hreq, -⟩ := hq
  rw [decideCancel, bridgeInRunning_on _ hb]
  simp [hst, hreq]

/-- R11: CANCEL of a bridge that is not the pending requester. -/
theorem decideCancel_nothing (hb : OnBridge p b s) (hn : s.helm.requester ≠ some b) :
    decideCancel p s = answer .NOTHING_PENDING s := by
  rw [decideCancel, bridgeInRunning_on _ hb]
  simp [hn]

/-- R4. -/
theorem decideCancel_E : decideCancel .E s = answer .NOT_PERMITTED s := rfl

/-- R15: a release in HELD. -/
theorem decideReleaseHelm_held (hh : HoldsHelm p b s) (hst : s.helm.state = .HELD) :
    decideReleaseHelm p s = doneWith (fun s => clearDemands (changeHolder .UNCLAIMED none s)) s := by
  rw [decideReleaseHelm, bridgeInRunning_on _ hh.1]
  simp [hh.2, hst]

/-- R15: a release in QUERY. -/
theorem decideReleaseHelm_query (hh : HoldsHelm p b s) (hst : s.helm.state = .QUERY) :
    decideReleaseHelm p s = doneWith grantRequester s := by
  rw [decideReleaseHelm, bridgeInRunning_on _ hh.1]
  simp [hh.2, hst]

/-- R15: a release of a bridge that does not hold the helm. -/
theorem decideReleaseHelm_other (hb : OnBridge p b s) (hh : s.helm.holder ≠ some b) :
    decideReleaseHelm p s = answer .NOT_HOLDER s := by
  rw [decideReleaseHelm, bridgeInRunning_on _ hb]
  simp [hh]

/-- R15: the helm is UNCLAIMED and the demands are 0, the mode kept. -/
theorem clearDemands_changeHolder (hh : s.helm.holder = some b) :
    clearDemands (changeHolder .UNCLAIMED none s.heard) = State.post .HELM_CHANGED { s with
      order := { s.order with thrust := 0, turn := 0 }
      helm := { state := .UNCLAIMED, holder := none, requester := none, queryDeadline := none, silenceDeadline := none
                lastHolder := some b, takeOvers := s.helm.takeOvers, policyL := s.helm.policyL
                policyH := s.helm.policyH, decayTimer := none } } := by
  simp [clearDemands, changeHolder, State.heard, State.post, hh]

/-- R9, R172: a port that is free belongs to no pending requester. -/
theorem not_requester_of_slot_none (hl : SlotLaw s) (hp : bridgeOf p = some b) (hslot : (s.port p).slot = none) :
    s.helm.requester ≠ some b := by
  rw [port_of_bridgeOf hp] at hslot
  obtain ⟨hbridges, -⟩ := hl
  rw [Ne, ← hbridges b, hslot]
  exact Bool.false_ne_true

/-! ## The statements -/

/-- Settles O10: the holder's claim and take find their own bridge at the helm; the requester's claim finds its slot
taken. -/
theorem claimByHolder : Obligations.ClaimByHolder := by
  refine ⟨fun p b tag line s hr hh => ⟨?claim, ?take⟩, ?busy⟩
  case claim =>
    rw [exec_claimHelm]
    exact request_by_holder hr hh (decideClaimHelm_by_holder (holdsHelm_heard hh))
  case take =>
    rw [exec_takeHelm]
    exact request_by_holder hr hh (decideTakeHelm_by_holder line (holdsHelm_heard hh))
  case busy =>
    rintro b r p x tag s hreset hq rfl hlen
    have ⟨_, _, _, _, hslot⟩ := hq
    rw [exec_claimHelm]
    exact request_busy hreset hlen hslot (by decide) (notice_requester hq)

/-- Settles O11, by the three yield policies. -/
theorem claimAgainstHolder : Obligations.ClaimAgainstHolder := by
  intro p b h tag s hr hb hst hh hne
  have hother : s.helm.holder ≠ some b := by simpa [hh] using hne
  have hdecide := decideClaimHelm_against hb hst hh hne
  obtain ⟨hp, -⟩ := hb
  rw [exec_claimHelm]
  refine ⟨fun hy => ?always, fun hy => ?never, fun hy => ?onAnswer⟩
  case always =>
    refine request_by_other hr hp hother ?_
    rw [hdecide, claimAgainst, hy]
    simp only [grantTo, changeHolder_passed hh]
  case never =>
    refine request_by_other hr hp hother ?_
    rw [hdecide, claimAgainst, hy]
    rfl
  case onAnswer =>
    refine request_held hr ?_
    rw [notice_not_holder hp hother, hdecide, claimAgainst, hy]
    rfl

/-- Settles O12, by the choice and by whether the answer meets a query of its own. -/
theorem answerHelm : Obligations.AnswerHelm := by
  constructor
  · intro p b r x tag s hr hh hq
    have hq' := queryOpen_heard hq
    have ⟨hst, _⟩ := hq'
    rw [exec_answerHelm, exec_answerHelm]
    refine ⟨request_by_holder hr hh ?accept, request_by_holder hr hh ?decline⟩
    case accept =>
      rw [decideAnswerHelm_by_holder (accept := true) rfl (holdsHelm_heard hh) hst, if_pos rfl, doneWith,
        grantRequester_of_queryOpen hq']
      rfl
    case decline =>
      rw [decideAnswerHelm_by_holder (accept := false) rfl (holdsHelm_heard hh) hst, if_neg Bool.false_ne_true,
        doneWith, declineQuery, answerClaim_endQuery _ hq']
  · intro p b tag choice s hr hb
    have hb' := onBridge_notice p hb
    rw [exec_answerHelm]
    refine ⟨fun hc hn => request_answered hr ?nothing, fun hc => request_answered hr ?badValue⟩
    case nothing =>
      have hn' : ¬((holderNotice p s).helm.state = .QUERY ∧ (holderNotice p s).helm.holder = some b) := by simpa using hn
      obtain rfl | rfl := hc
      · exact decideAnswerHelm_nothing (accept := false) rfl hb' hn'
      · exact decideAnswerHelm_nothing (accept := true) rfl hb' hn'
    case badValue => exact decideAnswerHelm_badValue (flagOf_ge hc) hb'

/-- Settles O13: the claim in flight makes the cancel end the query; a free port has none, by the law of the slots. -/
theorem cancelEndsQuery : Obligations.CancelEndsQuery := by
  refine ⟨?requester, ?free, ?portE⟩
  case requester =>
    rintro b r p x tag s ⟨hreset, hrun⟩ hq rfl hlen
    rw [exec_cancel]
    refine request_cancel_answered hreset hlen ?_
    rw [notice_requester hq, decideCancel_by_requester ⟨bridgeOf_portOfBridge r, hrun⟩ hq, doneWith, cancelQuery,
      answerClaim_endQuery _ hq]
  case free =>
    intro p b tag s hr hb hl
    have ⟨hp, _⟩ := hb
    have ⟨_, _, hslot⟩ := hr
    have hn := not_requester_of_slot_none hl hp hslot
    rw [exec_cancel]
    exact request_answered hr (decideCancel_nothing (onBridge_notice p hb) (by simpa using hn))
  case portE =>
    intro tag s hr
    rw [exec_cancel]
    exact request_answered hr decideCancel_E

/-- Settles O14, by the state of the helm and by who holds it. -/
theorem releaseHelm : Obligations.ReleaseHelm := by
  refine ⟨?held, ?query, ?other⟩
  case held =>
    intro p b tag s hr hh hst
    have ⟨_, hholder⟩ := hh
    rw [exec_releaseHelm]
    refine request_by_holder hr hh ?_
    rw [decideReleaseHelm_held (holdsHelm_heard hh) hst, doneWith, clearDemands_changeHolder hholder]
  case query =>
    intro p b r x tag s hr hh hq
    have hq' := queryOpen_heard hq
    have ⟨hst, _⟩ := hq'
    rw [exec_releaseHelm]
    refine request_by_holder hr hh ?_
    rw [decideReleaseHelm_query (holdsHelm_heard hh) hst, doneWith, grantRequester_of_queryOpen hq']
    rfl
  case other =>
    intro p b tag s hr hb hh
    have ⟨hp, _⟩ := hb
    rw [exec_releaseHelm]
    exact request_by_other hr hp hh (decideReleaseHelm_other hb hh)

end Sys2Proof.Machine
end

section
/-! SUPPORT. The event requests, O51: the request each command carries, the set of kinds a parameter names, what each
request decides, and the statement, put together from these. -/

namespace Sys2Proof.Machine

open Sys2Proof

variable {p q : Port} {tag : Byte} {set : BitVec 24} {kinds : EventSet} {s : State}

/-! ## The request that an event command carries (log 4) -/

theorem exec_readEvents : exec (.readEvents p tag) s = request p tag 0x50 (decideReadEvents p) s := rfl

theorem exec_clearEvents : exec (.clearEvents p tag set) s = request p tag 0x51 (decideClearEvents p set) s := rfl

theorem exec_setEventMask : exec (.setEventMask p tag set) s = request p tag 0x52 (decideSetEventMask p set) s := rfl

/-! ## The set of kinds that a parameter names (R176, R190) -/

theorem eventSetOf_eq_setWidth (h : set.toNat < 2 ^ 22) : eventSetOf set = some (BitVec.setWidth 22 set) := if_pos h

theorem eventSetOf_eq_none (h : 2 ^ 22 ≤ set.toNat) : eventSetOf set = none := if_neg (Nat.not_lt.mpr h)

/-- The parameter has two bits more than the set: one within the 22 kinds keeps its value. -/
theorem eventSetOf_of_toNat_eq (h : kinds.toNat = set.toNat) : eventSetOf set = some kinds := by
  have hset : set.toNat < 2 ^ 22 := h ▸ kinds.isLt
  have hwidth : BitVec.setWidth 22 set = kinds := by
    rw [BitVec.toNat_eq, BitVec.toNat_setWidth, Nat.mod_eq_of_lt hset, h]
  rw [eventSetOf_eq_setWidth hset, hwidth]

/-- R176: the pending set without the kinds named, read kind by kind. -/
theorem and_not_setWidth_eq {pending : EventSet}
    (h : ∀ n, kinds.getLsbD n = (pending.getLsbD n && !set.getLsbD n)) :
    pending &&& ~~~(BitVec.setWidth 22 set) = kinds := by
  refine BitVec.eq_of_getLsbD_eq fun n hn => ?_
  simp only [BitVec.getLsbD_and, BitVec.getLsbD_not, BitVec.getLsbD_setWidth, h, hn, decide_true, Bool.true_and]

/-! ## What the event requests decide (R176) -/

theorem decideClearEvents_of_set (h : eventSetOf set = some kinds) : decideClearEvents p set s = clearKinds p kinds s := by
  rw [decideClearEvents, h, orElse]

theorem decideClearEvents_badValue (h : 2 ^ 22 ≤ set.toNat) : decideClearEvents p set s = answer .BAD_VALUE s := by
  rw [decideClearEvents, eventSetOf_eq_none h, orElse]

theorem decideSetEventMask_of_set (h : eventSetOf set = some kinds) : decideSetEventMask p set s = setMask p kinds s := by
  rw [decideSetEventMask, h, orElse]

theorem decideSetEventMask_badValue (h : 2 ^ 22 ≤ set.toNat) : decideSetEventMask p set s = answer .BAD_VALUE s := by
  rw [decideSetEventMask, eventSetOf_eq_none h, orElse]

/-- R17: the notice leaves every port as it is, so the sets in the body are those at the request. -/
theorem decideReadEvents_notice : decideReadEvents p (holderNotice p s) = (holderNotice p s,
    .answered .DONE (encEvents (s.port p).pending ++ encEvents (s.port p).mask)) := by
  simp [decideReadEvents, readWith]

theorem clearKinds_notice : clearKinds p kinds (holderNotice p s) =
    ((holderNotice p s).setPort p { s.port p with pending := (s.port p).pending &&& ~~~kinds },
      .answered .DONE (encEvents ((s.port p).pending &&& ~~~kinds))) := by
  simp [clearKinds, State.modPort]

theorem setMask_notice : setMask p kinds (holderNotice p s) =
    ((holderNotice p s).setPort p { s.port p with mask := kinds }, .answered .DONE (encEvents kinds)) := by
  simp [setMask, State.modPort]

/-! ## The frame of an answered request -/

/-- A port record stored and a reply composed on one port leave the records of the others. -/
theorem port_reply_setPort_other {r : Result} {body : List Byte} {x : PortRec} (h : p ≠ q) :
    ((s.setPort p x).reply p tag r body).port q = s.port q := by
  simp [h.symm]

/-! ## The statement -/

/-- Settles O51: by the request, and by whether its parameter names a set of the 22 kinds. -/
theorem eventRequests : Obligations.EventRequests := by
  refine ⟨fun p tag set kinds s hr => ?requests, fun p q tag r body x s hpq => ?frame⟩
  case requests =>
    rw [exec_readEvents, exec_clearEvents, exec_setEventMask]
    refine ⟨?read, fun hset hkinds => ?clear, fun hkinds => ?mask, fun hset => ⟨?clearBad, ?maskBad⟩⟩
    case read => exact request_answered hr decideReadEvents_notice
    case clear =>
      refine request_answered hr ?_
      rw [decideClearEvents_of_set (eventSetOf_eq_setWidth hset), clearKinds_notice, and_not_setWidth_eq hkinds]
      rfl
    case mask =>
      refine request_answered hr ?_
      rw [decideSetEventMask_of_set (eventSetOf_of_toNat_eq hkinds), setMask_notice]
      rfl
    case clearBad => exact request_answered hr (decideClearEvents_badValue hset)
    case maskBad => exact request_answered hr (decideSetEventMask_badValue hset)
  case frame => exact ⟨port_reply_setPort_other hpq, port_notice p q s⟩

end Sys2Proof.Machine
end

section
/-! SUPPORT. The requests as one table: the port, the tag, the code and the decision of each request command. A frame
that completes does what the command of its request does, so what holds of every row of the table holds of every frame. -/

namespace Sys2Proof.Machine

open Sys2Proof

/-! ## The table of the requests (R189) -/

/-- A request at a port: what `request` is called with. -/
structure Request where
  port : Port
  tag  : Byte
  code : Byte
  act  : Act

/-- The request that a command carries. -/
def requestParts : Instr → Option Request
  | .claimHelm p tag => some ⟨p, tag, 0x01, decideClaimHelm p⟩
  | .answerHelm p tag choice => some ⟨p, tag, 0x02, decideAnswerHelm p choice⟩
  | .cancel p tag => some ⟨p, tag, cancelCode, decideCancel p⟩
  | .releaseHelm p tag => some ⟨p, tag, 0x04, decideReleaseHelm p⟩
  | .takeHelm p tag line => some ⟨p, tag, 0x05, decideTakeHelm p line⟩
  | .setYieldPolicy p tag policy => some ⟨p, tag, 0x06, decideSetYieldPolicy p policy⟩
  | .setOrder p tag thrust turn mode => some ⟨p, tag, 0x07, decideSetOrder p thrust turn mode⟩
  | .readHelm p tag => some ⟨p, tag, 0x08, decideReadHelm⟩
  | .readAllocation p tag => some ⟨p, tag, 0x10, decideReadAllocation⟩
  | .writeParameters p tag parameter value => some ⟨p, tag, 0x11, decideWriteParameters p parameter value⟩
  | .readParameters p tag => some ⟨p, tag, 0x12, decideReadParameters⟩
  | .readEngine p tag slot => some ⟨p, tag, 0x18, decideReadEngine slot⟩
  | .writeEngine p tag slot marker cfg => some ⟨p, tag, 0x19, decideWriteEngine slot marker cfg⟩
  | .setStandby p tag slot => some ⟨p, tag, 0x1A, decideSetStandby p slot⟩
  | .reinstate p tag slot => some ⟨p, tag, 0x1B, decideReinstate p slot⟩
  | .clearTrip p tag station lines => some ⟨p, tag, 0x1C, decideClearTrip p station lines⟩
  | .readRudder p tag slot => some ⟨p, tag, 0x20, decideReadRudder slot⟩
  | .writeRudder p tag slot marker cfg => some ⟨p, tag, 0x21, decideWriteRudder slot marker cfg⟩
  | .clearRudderFault p tag slot => some ⟨p, tag, 0x22, decideClearRudderFault p slot⟩
  | .readSteering p tag => some ⟨p, tag, 0x23, decideReadSteering⟩
  | .readCoupling p tag index => some ⟨p, tag, 0x28, decideReadCoupling index⟩
  | .writeCoupling p tag index marker cfg => some ⟨p, tag, 0x29, decideWriteCoupling index marker cfg⟩
  | .makeUp p tag index => some ⟨p, tag, 0x2A, decideMakeUp p index⟩
  | .releaseCoupling p tag index => some ⟨p, tag, 0x2B, decideReleaseCoupling p index⟩
  | .resetCoupling p tag index => some ⟨p, tag, 0x2C, decideResetCoupling p index⟩
  | .setTension p tag index target band => some ⟨p, tag, 0x2D, decideSetTension p index target band⟩
  | .readPeak p tag index => some ⟨p, tag, 0x2E, decideReadPeak index⟩
  | .readCeilings p tag => some ⟨p, tag, 0x2F, decideReadCeilings⟩
  | .readMeter p tag index clear => some ⟨p, tag, 0x30, decideReadMeter p index clear⟩
  | .writeMeter p tag index marker cfg => some ⟨p, tag, 0x31, decideWriteMeter index marker cfg⟩
  | .setMeter p tag index alpha limit => some ⟨p, tag, 0x32, decideSetMeter p index alpha limit⟩
  | .readTank p tag index => some ⟨p, tag, 0x38, decideReadTank index⟩
  | .writeTank p tag index marker cfg => some ⟨p, tag, 0x39, decideWriteTank index marker cfg⟩
  | .rebaseTank p tag index value => some ⟨p, tag, 0x3A, decideRebaseTank p index value⟩
  | .setFeed p tag engine tank => some ⟨p, tag, 0x3B, decideSetFeed p engine tank⟩
  | .setTank p tag index source limit => some ⟨p, tag, 0x3C, decideSetTank p index source limit⟩
  | .startMovement p tag channel req => some ⟨p, tag, 0x40, decideStartMovement p channel req⟩
  | .stopMovement p tag channel => some ⟨p, tag, 0x41, decideStopMovement channel⟩
  | .retireMovement p tag => some ⟨p, tag, 0x42, decideRetireMovement p⟩
  | .readMovementChannel p tag channel => some ⟨p, tag, 0x43, decideReadMovementChannel channel⟩
  | .readMovementRecord p tag index => some ⟨p, tag, 0x44, decideReadMovementRecord index⟩
  | .writeNode p tag line position marker cfg => some ⟨p, tag, 0x48, decideWriteNode line position marker cfg⟩
  | .readNode p tag line position clear => some ⟨p, tag, 0x49, decideReadNode line position clear⟩
  | .readLine p tag line clear => some ⟨p, tag, 0x4A, decideReadLine line clear⟩
  | .restartLine p tag line => some ⟨p, tag, 0x4B, decideRestartLine line⟩
  | .readEvents p tag => some ⟨p, tag, 0x50, decideReadEvents p⟩
  | .clearEvents p tag set => some ⟨p, tag, 0x51, decideClearEvents p set⟩
  | .setEventMask p tag set => some ⟨p, tag, 0x52, decideSetEventMask p set⟩
  | .readPortStatus p tag port clear => some ⟨p, tag, 0x53, decideReadPortStatus p port clear⟩
  | .readPhase p tag => some ⟨p, tag, 0x58, decideReadPhase⟩
  | .commitConfig p tag lines => some ⟨p, tag, 0x59, decideCommitConfig lines⟩
  | .reconfigure p tag => some ⟨p, tag, 0x5A, decideReconfigure p⟩
  | _ => none

variable {c : Instr} {r : Request} {p : Port} {tag : Byte} {s : State}

/-- Outside full reset a command does what it does. -/
theorem live_awake {f : State → State} (h : s.inReset = false) : live s f = .next (f s) := by simp [live, h]

/-- A request command is its request (log 4). -/
theorem exec_request (h : requestParts c = some r) : exec c s = request r.port r.tag r.code r.act s := by
  cases c <;> cases h <;> rfl

/-- The commands that name a port and a tag are those of the table. -/
theorem requestFrom_eq (c : Instr) : requestFrom c = (requestParts c).map fun r => (r.port, r.tag) := by
  cases c <;> rfl

theorem requestParts_of_requestFrom (h : requestFrom c = some (p, tag)) :
    ∃ r, requestParts c = some r ∧ r.port = p ∧ r.tag = tag := by
  rw [requestFrom_eq] at h
  simpa using h

/-- Only CANCEL has the code of CANCEL. -/
theorem eq_cancel_of_code (h : requestParts c = some r) (hc : r.code = cancelCode) : c = .cancel r.port r.tag := by
  cases c <;> cases h
  case cancel => rfl
  all_goals simp [cancelCode] at hc

/-- R189: a code names a request exactly where it routes to the decision of that request. -/
theorem requestWith_routed (p : Port) (tag code : Byte) (ps : List Byte) (lv : LineLevels) :
    (requestWith p tag code.toNat ps lv).bind requestParts =
      (routed p code.toNat ps lv).map fun act => ⟨p, tag, code, act⟩ := by
  have hcode : code = BitVec.ofNat 8 code.toNat := by simp
  generalize code.toNat = n at hcode ⊢
  subst hcode
  unfold requestWith
  split
  case h_53 =>
    unfold routed
    split <;> first | rfl | contradiction
  all_goals rfl

/-- R172, item 4, R189: what a completed frame is routed to is the decision of the request it carries. -/
theorem route_requestOf (p : Port) (f : RequestFrame) (lv : LineLevels) :
    (requestOf p f lv).bind requestParts = (route p f.code f.params lv).map fun act => ⟨p, f.tag, f.code, act⟩ := by
  unfold requestOf route
  split
  · exact requestWith_routed p f.tag f.code f.params lv
  · rfl

/-- Every request of R189 is in the table. -/
theorem requestWith_isRequest {n : Nat} {ps : List Byte} {lv : LineLevels} (h : requestWith p tag n ps lv = some c) :
    (requestParts c).isSome := by
  unfold requestWith at h
  split at h <;> cases h <;> rfl

theorem route_of_requestOf_none {f : RequestFrame} {lv : LineLevels} (h : requestOf p f lv = none) :
    route p f.code f.params lv = none := by
  have hr := route_requestOf p f lv
  rw [h] at hr
  simpa using hr.symm

theorem route_of_requestOf_some {f : RequestFrame} {lv : LineLevels} (h : requestOf p f lv = some c) :
    ∃ act, route p f.code f.params lv = some act ∧ requestParts c = some ⟨p, f.tag, f.code, act⟩ := by
  have hr := route_requestOf p f lv
  rw [h] at hr
  have hc : (requestParts c).isSome := by
    unfold requestOf at h
    split at h
    · exact requestWith_isRequest h
    · cases h
  obtain ⟨r, hc⟩ := Option.isSome_iff_exists.mp hc
  rw [Option.bind_some, hc, eq_comm, Option.map_eq_some_iff] at hr
  obtain ⟨act, hact, rfl⟩ := hr
  exact ⟨act, hact, hc⟩

/-! ## What the port does before it looks at a request (R17, R172, R173) -/

section
variable {code : Byte} {act : Option Act}

/-- R172, item 1. -/
theorem handleFrame_discarded (h : 5 < (s.port p).replies.length) : handleFrame p tag code act s =
    holderNotice p (s.setPort p { s.port p with busy := min 65535 ((s.port p).busy + 1) }) := by
  rw [handleFrame, if_pos h]
  rfl

/-- R172, item 3. -/
theorem handleFrame_busy (h : (s.port p).replies.length ≤ 5) (hslot : (s.port p).slot ≠ none)
    (hcode : code ≠ cancelCode) : handleFrame p tag code act s =
    (((holderNotice p s).setPort p { s.port p with busy := min 65535 ((s.port p).busy + 1) }).reply p tag .BUSY []) := by
  have hbusy : (s.port p).slot.isSome ∧ code ≠ cancelCode :=
    ⟨by simpa [Option.isSome_iff_ne_none] using hslot, hcode⟩
  rw [handleFrame, if_neg (Nat.not_lt.mpr h)]
  simp only [port_notice, if_pos hbusy, State.modPort]
  rfl

/-- R172, item 4. -/
theorem handleFrame_badRequest (h : (s.port p).replies.length ≤ 5) (hslot : (s.port p).slot = none ∨ code = cancelCode) :
    handleFrame p tag code none s = (holderNotice p s).reply p tag .BAD_REQUEST [] := by
  have hs : ¬(((holderNotice p s).port p).slot.isSome ∧ code ≠ cancelCode) := by
    rw [port_notice]
    rintro ⟨hsome, hcode⟩
    simp_all
  rw [handleFrame, if_neg (Nat.not_lt.mpr h)]
  simp only [if_neg hs]

end

/-! ## A completed frame (R170, item 6) -/

section
variable {f : RequestFrame} {lv : LineLevels}

theorem exec_frame (h : s.inReset = false) : exec (.requestFrameReceived p f lv) s = .next (receiveFrame p f lv s) := by
  rw [exec, execRequestFrameReceived, live_awake h]

theorem receiveFrame_wrongCrc (hlen : f.params.length ≤ 62) (h : crc16 (coveredBytes f) ≠ f.crc) : receiveFrame p f lv s =
    s.setPort p { s.port p with badCheck := min 65535 ((s.port p).badCheck + 1) } := by
  rw [receiveFrame, if_neg (Nat.not_lt.mpr hlen), if_neg h]
  rfl

theorem receiveFrame_valid (hlen : f.params.length ≤ 62) (h : crc16 (coveredBytes f) = f.crc) : receiveFrame p f lv s =
    handleFrame p f.tag f.code (route p f.code f.params lv) s := by
  rw [receiveFrame, if_neg (Nat.not_lt.mpr hlen), if_pos h]

end

/-! ## The statement -/

/-- Settles O6: by the check of R170 and R172 at which a frame stops; one that passes them all carries a request of the
table. -/
theorem framesAtThePort : Obligations.FramesAtThePort := by
  refine ⟨⟨fun p s h => notice_other h, fun p b s hb hh => notice_holder hb hh, fun p f lv s hreset hlen => ?stopped⟩,
    fun p f lv c s hlen hcrc hc => ?carried, fun c p tag s hc hreset => ?command⟩
  case stopped =>
    simp only [exec_frame hreset]
    refine ⟨fun hcrc => ?_, fun hcrc hq => ?_, fun hcrc hq hslot hcode => ?_, fun hcrc hq hslot hnone => ?_⟩
    · rw [receiveFrame_wrongCrc hlen hcrc]
    · rw [receiveFrame_valid hlen hcrc, handleFrame_discarded hq]
    · rw [receiveFrame_valid hlen hcrc, handleFrame_busy hq hslot hcode]
    · rw [receiveFrame_valid hlen hcrc, route_of_requestOf_none hnone, handleFrame_badRequest hq hslot]
  case carried =>
    obtain ⟨act, hroute, hparts⟩ := route_of_requestOf_some hc
    rw [exec_request hparts, request, exec, execRequestFrameReceived]
    simp only [live_eq, receiveFrame_valid hlen hcrc, hroute]
  case command =>
    obtain ⟨r, hr, rfl, rfl⟩ := requestParts_of_requestFrom hc
    rw [exec_request hr, request, live_awake hreset]
    refine ⟨fun hq => congrArg _ (handleFrame_discarded hq), fun hq hslot hne => congrArg _ (handleFrame_busy hq hslot ?_)⟩
    exact fun hcode => hne (eq_cancel_of_code hr hcode)

end Sys2Proof.Machine
end

section
/-! SUPPORT. What every command keeps: the laws of the blocks, the setpoints of the engines, and the links (the helm, the
order, the queues and slots of the ports). Each operation of a block is shown once to be tidy; a command is a chain of
them. -/

namespace Sys2Proof.Machine

open Sys2Proof

/-! ## The laws, slot by slot -/

/-- R48, R52, R53: `EngineLaw` of one slot. -/
def Engine.Lawful (latch : Bool) (e : Engine) : Prop :=
  e.rederive latch = e ∧ (e.eligible = false → e.gear = .NEUTRAL)

/-- R70, R71, R73: `RudderLaw` of one slot. -/
def Rudder.Lawful (r : Rudder) : Prop := r.state = r.derive ∧ (r.jamDeadline.isSome → r.state = .ONLINE)

/-- R80, R81, R85, R102: `CouplingLaw` of one entry. -/
def Coupling.Lawful (running : Bool) (c : Coupling) : Prop :=
  c.command = commandOf c.state ∧ (∀ d, c.deadline = some d → c.state = deadlineState d.kind)
    ∧ (c.used = false ↔ c.state = .UNUSED) ∧ (running = false → c.state.watched = false)

/-- R123: `AccountLaw` of one tank. -/
def Account.Lawful (a : Account) : Prop :=
  a.saturated = false → a.book = a.opening + a.received + a.transferIn - a.transferOut - a.consumed

theorem engineLaw_iff (s : State) :
    EngineLaw s ↔ ∀ i : Fin 8, s.engines[i].Lawful (s.tripLatch.get s.engines[i].cfg.station) := Iff.rfl

theorem rudderLaw_iff (s : State) : RudderLaw s ↔ ∀ i : Fin 8, s.rudders[i].Lawful := Iff.rfl

theorem couplingLaw_iff (s : State) : CouplingLaw s ↔ ∀ i : Fin 24, s.couplings[i].Lawful s.running := Iff.rfl

theorem accountLaw_iff (s : State) : AccountLaw s ↔ ∀ i : Fin 8, s.tanks[i].account.Lawful := Iff.rfl

/-! ## The links -/

/-- Two records of a port with the same request in flight and the same replies to send. -/
abbrev SameLink (x y : PortRec) : Prop := y.slot = x.slot ∧ y.replies = x.replies ∧ y.txDone = x.txDone

theorem SameLink.refl (x : PortRec) : SameLink x x := ⟨rfl, rfl, rfl⟩

theorem SameLink.trans {x y z : PortRec} (h : SameLink x y) (k : SameLink y z) : SameLink x z :=
  ⟨k.1.trans h.1, k.2.1.trans h.2.1, k.2.2.trans h.2.2⟩

/-- The helm, the order, the phase and the links of the ports are as they were. -/
abbrev SameLinks (s t : State) : Prop :=
  t.helm = s.helm ∧ t.order = s.order ∧ t.phase.phase = s.phase.phase ∧ ∀ p, SameLink (s.port p) (t.port p)

/-- R60: an engine stays where it is, or goes to NEUTRAL at idle. -/
def Engine.Coasts (e e' : Engine) : Prop :=
  (e'.gear = e.gear ∧ e'.rpm = e.rpm ∧ e'.cfg.idleRpm = e.cfg.idleRpm) ∨ (e'.gear = .NEUTRAL ∧ e'.rpm = e'.cfg.idleRpm)

theorem Engine.Coasts.refl (e : Engine) : e.Coasts e := .inl ⟨rfl, rfl, rfl⟩

theorem Engine.Coasts.trans {e f g : Engine} (h : e.Coasts f) (k : f.Coasts g) : e.Coasts g := by
  obtain ⟨kg, kr, ki⟩ | k := k
  · obtain ⟨hg, hr, hi⟩ | ⟨hg, hr⟩ := h
    · exact .inl ⟨kg.trans hg, kr.trans hr, ki.trans hi⟩
    · exact .inr ⟨kg.trans hg, by rw [kr, ki, hr]⟩
  · exact .inr k

/-! ## What a change keeps -/

/-- A change keeps the laws of the blocks. -/
structure Lawful (s t : State) : Prop where
  engines   : EngineLaw s → EngineLaw t
  rudders   : RudderLaw s → RudderLaw t
  couplings : CouplingLaw s ∧ CeilingLaw s → CouplingLaw t ∧ CeilingLaw t
  fuel      : AccountLaw s ∧ MovementLaw s ∧ FlowLaw s → AccountLaw t ∧ MovementLaw t ∧ FlowLaw t
  nodes     : NodeLaw s → NodeLaw t

/-- The waiting commands are left alone, and the clock does not go back. -/
abbrev Onward (s t : State) : Prop := t.pending = s.pending ∧ s.now ≤ t.now

theorem Onward.trans {s t u : State} (h : Onward s t) (k : Onward t u) : Onward s u :=
  ⟨k.1.trans h.1, h.2.trans k.2⟩

theorem onward_of_base {s t : State} (h : SameBase s t) : Onward s t := ⟨h.2.2.2.2.2, h.1.ge⟩

/-- A change keeps the laws of the blocks, engages and moves no engine but to NEUTRAL at idle, and goes on. -/
structure Sound (s t : State) : Prop extends Lawful s t where
  onward : Onward s t
  coasts : ∀ i : Fin 8, s.engines[i].Coasts t.engines[i]

/-- A sound change that leaves the links as they were. -/
structure Tidy (s t : State) : Prop extends Sound s t where
  links : SameLinks s t

theorem Lawful.trans {s t u : State} (h : Lawful s t) (k : Lawful t u) : Lawful s u :=
  ⟨k.engines ∘ h.engines, k.rudders ∘ h.rudders, k.couplings ∘ h.couplings, k.fuel ∘ h.fuel, k.nodes ∘ h.nodes⟩

theorem Sound.trans {s t u : State} (h : Sound s t) (k : Sound t u) : Sound s u :=
  ⟨h.toLawful.trans k.toLawful, Onward.trans h.onward k.onward, fun i => (h.coasts i).trans (k.coasts i)⟩

theorem SameLinks.trans {s t u : State} (h : SameLinks s t) (k : SameLinks t u) : SameLinks s u := by
  obtain ⟨h1, h2, h3, h4⟩ := h
  obtain ⟨k1, k2, k3, k4⟩ := k
  exact ⟨k1.trans h1, k2.trans h2, k3.trans h3, fun p => (h4 p).trans (k4 p)⟩

theorem Tidy.trans {s t u : State} (h : Tidy s t) (k : Tidy t u) : Tidy s u :=
  ⟨h.toSound.trans k.toSound, SameLinks.trans h.links k.links⟩

theorem running_of_phase {s t : State} (h : t.phase.phase = s.phase.phase) : t.running = s.running := by
  simp [State.running, h]

theorem Tidy.running {s t : State} (h : Tidy s t) : t.running = s.running := running_of_phase h.links.2.2.1

/-! ## Blocks that no law finds changed -/

/-- What the laws read of the engines. -/
abbrev EnginesKept (s t : State) : Prop := t.engines = s.engines ∧ t.tripLatch = s.tripLatch

/-- What the laws read of the couplings. -/
abbrev CouplingsKept (s t : State) : Prop := t.couplings = s.couplings ∧ t.ceilings = s.ceilings ∧ t.params = s.params

/-- What the laws read of the fuel chain. -/
abbrev FuelKept (s t : State) : Prop := t.tanks = s.tanks ∧ t.channels = s.channels ∧ t.records = s.records

/-- What the laws read of the lines. -/
abbrev NodesKept (s t : State) : Prop := ∀ l, (t.line l).nodes = (s.line l).nodes

section
variable {s t : State}

theorem EnginesKept.law (h : EnginesKept s t) (hs : EngineLaw s) : EngineLaw t := by
  simpa only [EngineLaw, h.1, h.2] using hs

theorem EnginesKept.coasts (h : EnginesKept s t) (i : Fin 8) : s.engines[i].Coasts t.engines[i] := by
  rw [h.1]
  exact .refl _

theorem rudderLaw_of_same (h : t.rudders = s.rudders) (hs : RudderLaw s) : RudderLaw t := by
  simpa only [RudderLaw, h] using hs

theorem CouplingsKept.law (h : CouplingsKept s t) (hrun : t.running = s.running) (hs : CouplingLaw s ∧ CeilingLaw s) :
    CouplingLaw t ∧ CeilingLaw t := by
  simpa only [CouplingLaw, CeilingLaw, h.1, h.2.1, h.2.2, hrun] using hs

theorem FuelKept.law (h : FuelKept s t) (hrun : t.running = s.running) (hs : AccountLaw s ∧ MovementLaw s ∧ FlowLaw s) :
    AccountLaw t ∧ MovementLaw t ∧ FlowLaw t := by
  simpa only [AccountLaw, MovementLaw, FlowLaw, State.openChannels, h.1, h.2.1, h.2.2, hrun] using hs

theorem NodesKept.law (h : NodesKept s t) (hs : NodeLaw s) : NodeLaw t := by
  simpa only [NodeLaw, h] using hs

/-- A change that no law sees. -/
theorem Sound.of_kept (hon : Onward s t) (he : EnginesKept s t) (hr : t.rudders = s.rudders) (hc : CouplingsKept s t) (hf : FuelKept s t)
    (hn : NodesKept s t) (hrun : t.phase.phase = s.phase.phase) : Sound s t where
  engines := he.law
  rudders := rudderLaw_of_same hr
  couplings := hc.law (running_of_phase hrun)
  fuel := hf.law (running_of_phase hrun)
  nodes := hn.law
  onward := hon
  coasts := he.coasts

theorem Tidy.of_kept (hon : Onward s t) (he : EnginesKept s t) (hr : t.rudders = s.rudders) (hc : CouplingsKept s t) (hf : FuelKept s t)
    (hn : NodesKept s t) (hl : SameLinks s t) : Tidy s t :=
  ⟨.of_kept hon he hr hc hf hn hl.2.2.1, hl⟩

theorem Tidy.refl (s : State) : Tidy s s :=
  .of_kept ⟨rfl, le_rfl⟩ ⟨rfl, rfl⟩ rfl ⟨rfl, rfl, rfl⟩ ⟨rfl, rfl, rfl⟩ (fun _ => rfl) ⟨rfl, rfl, rfl, fun _ => ⟨rfl, rfl, rfl⟩⟩

/-- A change of one alternative of two. -/
theorem Tidy.ite {c : Prop} [Decidable c] {a b : State} (ha : c → Tidy s a) (hb : ¬c → Tidy s b) :
    Tidy s (if c then a else b) := by
  split
  · exact ha ‹_›
  · exact hb ‹_›

theorem Tidy.foldl {α : Type} (f : State → α → State) (h : ∀ s a, Tidy s (f s a)) (l : List α) (s : State) :
    Tidy s (l.foldl f s) := by
  induction l generalizing s with
  | nil => exact .refl s
  | cons a l ih => exact (h s a).trans (ih _)

theorem nodesKept_of_lines (h : t.lines = s.lines) : NodesKept s t := fun l => by simp only [State.line, h]

theorem sameLinks_of_ports (hh : t.helm = s.helm) (ho : t.order = s.order) (hp : t.phase.phase = s.phase.phase)
    (h : t.ports = s.ports) : SameLinks s t := ⟨hh, ho, hp, fun p => by simp [State.port, h, SameLink]⟩

/-! ## Posts -/

/-- A post touches the pending sets alone. -/
theorem sameLinks_post (k : EventKind) (s : State) : SameLinks s (s.post k) :=
  ⟨rfl, rfl, rfl, fun p => by simp [SameLink]⟩

theorem link_post (k : EventKind) (s : State) (p : Port) : SameLink (s.port p) ((s.post k).port p) :=
  (sameLinks_post k s).2.2.2 p

theorem link_postIf (b : Bool) (k : EventKind) (s : State) (p : Port) : SameLink (s.port p) ((s.postIf b k).port p) := by
  cases b
  · exact .refl _
  · exact link_post k s p

theorem Tidy.post (k : EventKind) (s : State) : Tidy s (s.post k) :=
  .of_kept ⟨rfl, le_rfl⟩ ⟨rfl, rfl⟩ rfl ⟨rfl, rfl, rfl⟩ ⟨rfl, rfl, rfl⟩ (fun _ => rfl) (sameLinks_post k s)

theorem Tidy.postIf (b : Bool) (k : EventKind) (s : State) : Tidy s (s.postIf b k) := by
  cases b
  · exact .refl s
  · exact .post k s

end

end Sys2Proof.Machine
end

section
/-! SUPPORT. The engine sequencer and the rudder controller keep the laws. -/

namespace Sys2Proof.Machine

open Sys2Proof

/-! ## A slot derived again (R48, R52, R53) -/

section
variable (latch : Bool) (dwell : Nat) (e : Engine)

@[simp] theorem rederive_keeps :
    (e.rederive latch).gear = e.gear ∧ (e.rederive latch).rpm = e.rpm ∧ (e.rederive latch).cfg = e.cfg
      ∧ (e.rederive latch).configured = e.configured ∧ (e.rederive latch).dwell = e.dwell
      ∧ (e.rederive latch).lastGear = e.lastGear := by and_intros <;> rfl

@[simp] theorem rederive_rederive (l : Bool) : (e.rederive l).rederive latch = e.rederive latch := rfl

@[simp] theorem toNeutral_keeps :
    (e.toNeutral dwell).gear = .NEUTRAL ∧ (e.toNeutral dwell).rpm = e.cfg.idleRpm ∧ (e.toNeutral dwell).cfg = e.cfg
      ∧ (e.toNeutral dwell).configured = e.configured ∧ (e.toNeutral dwell).eligible = e.eligible := by
  and_intros <;> rfl

/-- R53: the setpoint is no condition of the slot. -/
theorem rederive_toNeutral : (e.toNeutral dwell).rederive latch = (e.rederive latch).toNeutral dwell := rfl

theorem settle_eq : e.settle latch dwell =
    if e.eligible = true ∧ (e.rederive latch).eligible = false then (e.rederive latch).toNeutral dwell
    else e.rederive latch := by simp [Engine.settle]

@[simp] theorem settle_cfg : (e.settle latch dwell).cfg = e.cfg := by
  rw [settle_eq]
  split <;> rfl

variable {latch dwell e}

/-- A slot that is settled is as its conditions give it, and in NEUTRAL where it is not eligible. -/
theorem settle_lawful (h : e.eligible = false → e.gear = .NEUTRAL) : (e.settle latch dwell).Lawful latch := by
  rw [settle_eq]
  split
  · exact ⟨rfl, fun _ => rfl⟩
  · rename_i hkept
    refine ⟨rfl, fun hlost => h ?_⟩
    by_contra he
    exact hkept ⟨by simpa using he, hlost⟩

theorem settle_coasts (e₀ : Engine) (hg : e.gear = e₀.gear) (hr : e.rpm = e₀.rpm) (hi : e.cfg.idleRpm = e₀.cfg.idleRpm) :
    e₀.Coasts (e.settle latch dwell) := by
  rw [settle_eq]
  split
  · exact .inr ⟨rfl, rfl⟩
  · exact .inl ⟨hg, hr, hi⟩

/-- A slot of a station whose latch is set is not eligible (R53). -/
theorem tripped_lawful : ((e.rederive true).toNeutral dwell).Lawful true := ⟨rfl, fun _ => rfl⟩

theorem Engine.Lawful.neutral (h : e.Lawful latch) : e.eligible = false → e.gear = .NEUTRAL := h.2

/-- A fresh slot is LOST or ABSENT, and in NEUTRAL at idle (R46). -/
theorem fresh_lawful (configured : Bool) (cfg : EngineCfg) (node : Option NodeRef) (feed : FeedLevel) :
    (Engine.fresh configured cfg node feed).Lawful latch := by
  cases configured <;> exact ⟨by simp [Engine.rederive, Engine.derive, Engine.fresh, stateCap], fun _ => rfl⟩

theorem fresh_coasts (e : Engine) (configured : Bool) (cfg : EngineCfg) (node : Option NodeRef) (feed : FeedLevel) :
    e.Coasts (Engine.fresh configured cfg node feed) := .inr ⟨rfl, rfl⟩

end

/-! ## The operations of the engine sequencer -/

section
variable {s t : State}

/-- A change of the engine slots, the trip latches, a waiting pass result and the pending sets alone. -/
theorem Tidy.of_engines (hcontrol : SameControl s t) (hfuel : SameFuel s t) (hl : t.lines = s.lines)
    (hp : ∀ p, SameLink (s.port p) (t.port p))
    (hlaw : EngineLaw s → EngineLaw t) (hcoast : ∀ i : Fin 8, s.engines[i].Coasts t.engines[i]) : Tidy s t := by
  obtain ⟨hbase, hhelm, halloc, hr, hc, hphase⟩ := hcontrol
  obtain ⟨-, hf, hm⟩ := hfuel
  have hphase : t.phase.phase = s.phase.phase := by rw [hphase]
  exact {
    engines := hlaw
    rudders := rudderLaw_of_same hr.1
    couplings := CouplingsKept.law ⟨hc.1, hc.2, halloc.1⟩ (running_of_phase hphase)
    fuel := FuelKept.law ⟨hf, hm.1, hm.2.1⟩ (running_of_phase hphase)
    nodes := (nodesKept_of_lines hl).law
    onward := onward_of_base hbase
    coasts := hcoast
    links := ⟨hhelm.1, hhelm.2, hphase, hp⟩ }

/-- One slot changes, the latches stay. -/
theorem engineLaw_set {i : Fin 8} {e : Engine} (ht : t.tripLatch = s.tripLatch) (he : t.engines = s.engines.set i e)
    (hs : EngineLaw s) (h : e.Lawful (s.tripLatch.get e.cfg.station)) : EngineLaw t := by
  intro j
  rw [he, ht, slot_set]
  split
  · exact h
  · exact hs j

theorem coasts_set {i : Fin 8} {e : Engine} (he : t.engines = s.engines.set i e) (h : s.engines[i].Coasts e) (j : Fin 8) :
    s.engines[j].Coasts t.engines[j] := by
  rw [he, slot_set]
  split
  · subst j
    exact h
  · exact .refl _

/-- R48, R53: a change of conditions that leaves the setpoint and the eligibility as they are. -/
theorem Tidy.updateEngine (i : Fin 8) (f : Engine → Engine) (s : State)
    (hg : (f s.engines[i]).gear = s.engines[i].gear) (hr : (f s.engines[i]).rpm = s.engines[i].rpm)
    (he : (f s.engines[i]).eligible = s.engines[i].eligible)
    (hi : (f s.engines[i]).cfg.idleRpm = s.engines[i].cfg.idleRpm) : Tidy s (s.updateEngine i f) := by
  obtain ⟨⟨hcontrol, hfuel, hlatch, hlines⟩, hset⟩ := updateEngine_keeps i f s
  refine .of_engines hcontrol hfuel hlines (fun p => link_postIf ..) (fun hs => ?_)
    (coasts_set hset (settle_coasts _ hg hr hi))
  refine engineLaw_set hlatch hset hs ?_
  rw [settle_cfg]
  exact settle_lawful fun h => by rw [hg, (hs i).2 (he ▸ h)]

/-- R63, R64, R62: the deadlines of a slot are no conditions of it. -/
theorem Tidy.setEngine (i : Fin 8) (e : Engine) (s : State)
    (h : ∃ d c b k, e = { s.engines[i] with dwell := d, confirm := c, confirmed := b, trackDeadline := k }) :
    Tidy s (s.setEngine i e) := by
  obtain ⟨d, c, b, k, rfl⟩ := h
  obtain ⟨⟨hcontrol, hfuel, hlatch, hlines⟩, -, -, hset⟩ := setEngine_keeps s i
    { s.engines[i] with dwell := d, confirm := c, confirmed := b, trackDeadline := k }
  refine .of_engines hcontrol hfuel hlines (fun _ => .refl _) (fun hs => ?_) (coasts_set hset (.inl ⟨rfl, rfl, rfl⟩))
  refine engineLaw_set hlatch hset hs ⟨?_, (hs i).2⟩
  exact congrArg (fun x : Engine => { x with dwell := d, confirm := c, confirmed := b, trackDeadline := k }) (hs i).1

/-- R47: what is written is fresh. -/
theorem Tidy.writeEngine (i : Fin 8) (cfg : Option EngineCfg) (s : State) : Tidy s (s.writeEngine i cfg) := by
  obtain ⟨⟨hcontrol, hfuel, hlatch, hlines⟩, hset⟩ := writeEngine_keeps i cfg s
  have hfresh : ∃ b g n l, s.engines[i].written cfg = Engine.fresh b g n l := by
    cases cfg
    · exact ⟨_, _, _, _, rfl⟩
    · exact ⟨_, _, _, _, rfl⟩
  obtain ⟨b, g, n, l, hfresh⟩ := hfresh
  rw [hfresh] at hset
  exact .of_engines hcontrol hfuel hlines (fun p => link_postIf ..)
    (fun hs => engineLaw_set hlatch hset hs (fresh_lawful ..)) (coasts_set hset (fresh_coasts ..))

/-- R53: the latch of a station is no matter to a slot that is not configured. -/
theorem rederive_unconfigured {e : Engine} (h : e.configured = false) (l m : Bool) : e.rederive l = e.rederive m := by
  simp [Engine.rederive, Engine.derive, h]

/-- R54, R55: the latch of a station changes, and with it the slots configured at it, by `f`. -/
theorem Tidy.latch (st : Station) (latch : Bool) (f : Engine → Engine)
    (hcontrol : SameControl s t) (hfuel : SameFuel s t) (hl : t.lines = s.lines)
    (hp : ∀ p, SameLink (s.port p) (t.port p)) (hlatch : t.tripLatch = s.tripLatch.set st latch)
    (he : ∀ i : Fin 8, t.engines[i] = if s.engines[i].ofStation st then f s.engines[i] else s.engines[i])
    (hcfg : ∀ e, (f e).cfg = e.cfg) (hf : ∀ e l, e.Lawful l → (f e).Lawful latch) (hcoast : ∀ e : Engine, e.Coasts (f e)) :
    Tidy s t := by
  refine .of_engines hcontrol hfuel hl hp (fun hs i => ?_) (fun i => ?_)
  · have hi := hs i
    rw [he, hlatch, get_set_station]
    by_cases hst : s.engines[i].ofStation st = true
    · have : s.engines[i].cfg.station = st := by simpa [Engine.ofStation] using (Bool.and_eq_true_iff.mp hst).2
      rw [if_pos hst, hcfg, if_pos this]
      exact hf _ _ hi
    · rw [if_neg hst]
      split
      · rename_i heq
        have hno : s.engines[i].configured = false := by
          rw [Engine.ofStation, heq] at hst
          simpa using hst
        exact ⟨(rederive_unconfigured hno _ _).trans hi.1, hi.2⟩
      · exact hi
  · rw [he]
    split
    · exact hcoast _
    · exact .refl _

/-- R54. -/
theorem Tidy.tripStation (st : Station) (s : State) : Tidy s (s.tripStation st) := by
  refine .latch st true (fun e => (e.rederive true).toNeutral s.dwellEnd) (by and_intros <;> rfl) (by and_intros <;> rfl)
    rfl (fun p => link_post ..) rfl (fun i => ?_) (fun _ => rfl) (fun _ _ _ => tripped_lawful)
    (fun _ => .inr ⟨rfl, rfl⟩)
  simp [State.tripStation]

/-- R55: without the latch a slot is eligible wherever it was with it. -/
theorem untripped_lawful {e : Engine} {l : Bool} (h : e.Lawful l) : (e.rederive false).Lawful false := by
  refine ⟨rfl, fun hlost => h.2 ?_⟩
  rw [← h.1]
  simp only [Engine.rederive, Bool.not_false, Bool.and_true] at hlost ⊢
  rw [hlost, Bool.false_and]

theorem Tidy.clearTrip (st : Station) (s : State) : Tidy s (s.clearTrip st) := by
  refine .latch st false (fun e => e.rederive false) (by and_intros <;> rfl) (by and_intros <;> rfl)
    rfl (fun p => .refl _) rfl (fun i => ?_) (fun _ => rfl) (fun _ _ h => untripped_lawful h)
    (fun _ => .inl ⟨rfl, rfl, rfl⟩)
  simp [State.clearTrip]

theorem Tidy.seeTrip (st : Station) (line : Bool) (s : State) : Tidy s (s.seeTrip st line) :=
  .of_kept ⟨rfl, le_rfl⟩ ⟨rfl, rfl⟩ rfl ⟨rfl, rfl, rfl⟩ ⟨rfl, rfl, rfl⟩ (fun _ => rfl) ⟨rfl, rfl, rfl, fun _ => .refl _⟩

/-- R51. -/
theorem Tidy.feedChanged (tank : Fin 8) (level : FeedLevel) (s : State) : Tidy s (s.feedChanged tank level) := by
  refine Tidy.trans (.foldl _ (fun s i => ?_) _ s) (.postIf ..)
  split
  · exact .updateEngine _ _ _ rfl rfl rfl rfl
  · exact .refl _

/-- R132. -/
theorem Tidy.moveFeed (e tank : Fin 8) (s : State) : Tidy s (s.moveFeed e tank) := by
  unfold State.moveFeed
  exact .updateEngine _ _ _ rfl rfl rfl rfl

/-- R63, R64: the monitors touch the deadlines and the confirmation alone. -/
theorem monitors_eq (e : Engine) (r : EngineReport) (confirmUntil band trackUntil : Nat) :
    ∃ d c b k, (e.confirmMonitor confirmUntil r).trackMonitor band trackUntil r =
      { e with dwell := d, confirm := c, confirmed := b, trackDeadline := k } := by
  simp only [Engine.trackMonitor, Engine.confirmMonitor]
  repeat' split
  all_goals exact ⟨_, _, _, _, rfl⟩

/-- R50: a fault class acts on the derate and the fault latch alone. -/
theorem takeFault_keeps (f : FaultClass) (e : Engine) :
    (e.takeFault f).gear = e.gear ∧ (e.takeFault f).rpm = e.rpm ∧ (e.takeFault f).eligible = e.eligible
      ∧ (e.takeFault f).cfg = e.cfg := by
  cases f <;> and_intros <;> rfl

/-- R50, R63, R64. -/
theorem Tidy.engineReport (i : Fin 8) (r : EngineReport) (s : State) : Tidy s (s.engineReport i r) := by
  refine Tidy.trans (.updateEngine i _ s ?_ ?_ ?_ ?_) (.setEngine i _ _ (monitors_eq ..))
  all_goals simp only [takeFault_keeps]

/-! ## From share to setpoint (R58 to R61) -/

/-- R58 to R61: a share moves the setpoint of a slot and touches none of its conditions. -/
theorem applyShare_eq (dwell confirm : Nat) (share : Int) (e : Engine) :
    ∃ g rpm l d c b k, e.applyShare dwell confirm share =
      { e with gear := g, rpm := rpm, lastGear := l, dwell := d, confirm := c, confirmed := b, trackDeadline := k } := by
  simp only [Engine.applyShare, Engine.engage, Engine.rampOut, Engine.toNeutral]
  repeat' split
  all_goals exact ⟨_, _, _, _, _, _, _, rfl⟩

theorem applyShare_lawful {latch : Bool} {e : Engine} (dwell confirm : Nat) (share : Int) (he : e.eligible = true)
    (h : e.Lawful latch) : (e.applyShare dwell confirm share).Lawful latch := by
  obtain ⟨g, rpm, l, d, c, b, k, heq⟩ := applyShare_eq dwell confirm share e
  rw [heq]
  exact ⟨congrArg (fun x : Engine =>
    { x with gear := g, rpm := rpm, lastGear := l, dwell := d, confirm := c, confirmed := b, trackDeadline := k }) h.1,
    fun hno => absurd he (by simpa using hno)⟩

@[simp] theorem applyShare_cfg (dwell confirm : Nat) (share : Int) (e : Engine) :
    (e.applyShare dwell confirm share).cfg = e.cfg := by
  obtain ⟨g, rpm, l, d, c, b, k, heq⟩ := applyShare_eq dwell confirm share e
  rw [heq]

/-- R58: a pass result applied keeps the law of the engines. -/
theorem applyShares_engineLaw (shares : Vector Int 8) (hs : EngineLaw s) : EngineLaw (s.applyShares shares) := by
  intro i
  simp only [State.applyShares, slot_ofFn]
  split
  · rename_i h
    rw [applyShare_cfg]
    exact applyShare_lawful _ _ _ (Bool.and_eq_true_iff.mp h).2 (hs i)
  · exact hs i

/-! ## Rudders (R70 to R76) -/

/-- A change of the rudders and of what no law reads. -/
theorem Tidy.of_rudders (hon : Onward s t) (he : EnginesKept s t) (hc : CouplingsKept s t) (hf : FuelKept s t) (hl : t.lines = s.lines)
    (hlinks : SameLinks s t) (hlaw : RudderLaw s → RudderLaw t) : Tidy s t where
  engines := he.law
  rudders := hlaw
  couplings := hc.law (running_of_phase hlinks.2.2.1)
  fuel := hf.law (running_of_phase hlinks.2.2.1)
  nodes := (nodesKept_of_lines hl).law
  onward := hon
  coasts := he.coasts
  links := hlinks

/-- One slot of the rudder table changes, and a pending set perhaps. -/
theorem Tidy.of_rudder {i : Fin 8} {r : Rudder} (h : OnlyRudders s t) (hp : ∀ p, SameLink (s.port p) (t.port p))
    (hset : t.rudders = s.rudders.set i r) (hlaw : s.rudders[i].Lawful → r.Lawful) : Tidy s t := by
  obtain ⟨hbase, hhelm, halloc, -, hc, hphase, ⟨-, hf, hm⟩, he, hl⟩ := h
  refine .of_rudders (onward_of_base hbase) ⟨he.1, he.2.1⟩ ⟨hc.1, hc.2, halloc.1⟩ ⟨hf, hm.1, hm.2.1⟩ hl ⟨hhelm.1, hhelm.2, by rw [hphase], hp⟩
    fun hs j => ?_
  rw [hset, slot_set]
  split
  · exact hlaw (hs i)
  · exact hs j

theorem Tidy.updateRudder (i : Fin 8) (f : Rudder → Rudder) (s : State)
    (h : s.rudders[i].Lawful → (f s.rudders[i]).jamDeadline.isSome → (f s.rudders[i]).derive = .ONLINE) :
    Tidy s (s.updateRudder i f) := by
  obtain ⟨hkeep, hset⟩ := updateRudder_keeps i f s
  refine .of_rudder hkeep (fun p => link_postIf ..) hset fun hs => ⟨rfl, h hs⟩

/-- R69: what is written is LOST or ABSENT, with no deadline. -/
theorem Rudder.fresh_lawful (configured : Bool) (cfg : RudderCfg) (node : Option NodeRef) :
    (Rudder.fresh configured cfg node).Lawful := by
  cases configured <;> exact ⟨rfl, fun h => Bool.noConfusion h⟩

theorem Tidy.writeRudder (i : Fin 8) (cfg : Option RudderCfg) (s : State) : Tidy s (s.writeRudder i cfg) := by
  obtain ⟨hkeep, hset⟩ := writeRudder_keeps i cfg s
  refine .of_rudder hkeep (fun p => link_postIf ..) hset fun _ => ?_
  cases cfg
  · exact Rudder.fresh_lawful ..
  · exact Rudder.fresh_lawful ..

/-- R70: the state of a rudder follows from its own conditions, which a target, an angle and a deadline are not. -/
theorem Rudder.Lawful.of_same {r x : Rudder} (h : r.Lawful) (hs : x.state = r.state) (hd : x.derive = r.derive)
    (hj : x.jamDeadline.isSome → r.jamDeadline.isSome ∨ r.state = .ONLINE) : x.Lawful :=
  ⟨by rw [hs, hd, h.1], fun hx => by rw [hs]; exact (hj hx).elim h.2 id⟩

/-- R72, R73: a jam deadline is started only while ONLINE. -/
theorem Rudder.report_lawful {r : Rudder} (angle : Int) (jamUntil : Nat) (h : r.Lawful) :
    (r.report angle jamUntil).Lawful := by
  refine h.of_same rfl rfl fun hj => ?_
  by_cases hon : r.state = .ONLINE
  · exact .inr hon
  · simp only [Rudder.report, if_neg hon] at hj
    exact .inl hj

theorem Tidy.rudderReport (i : Fin 8) (angle : Int) (jamUntil : Nat) (s : State) :
    Tidy s (s.setRudder i (s.rudders[i].report angle jamUntil)) := by
  obtain ⟨hkeep, -, hset⟩ := setRudder_keeps s i (s.rudders[i].report angle jamUntil)
  exact .of_rudder hkeep (fun _ => .refl _) hset (Rudder.report_lawful angle jamUntil)

/-- R71: a node that returns takes no deadline away; one that is lost takes it. -/
theorem Tidy.rudderNode (i : Fin 8) (up : Bool) (s : State) : Tidy s (s.updateRudder i (Rudder.nodeChange up)) := by
  refine .updateRudder _ _ _ fun hs hj => ?_
  cases up with
  | false => cases hj
  | true =>
    have hon : s.rudders[i].derive = .ONLINE := hs.1 ▸ hs.2 hj
    simp only [Rudder.derive, Rudder.nodeChange] at hon ⊢
    repeat' split at hon
    all_goals simp_all

/-- R78, R73: the jam cleared, and the jam latched, leave no deadline. -/
theorem Tidy.rudderJam (i : Fin 8) (b : Bool) (s : State) :
    Tidy s (s.updateRudder i fun r => { r with jam := b, jamDeadline := none }) :=
  .updateRudder _ _ _ fun _ hj => Bool.noConfusion hj

/-- R74 to R76. -/
theorem Tidy.applyRudders (r : RudderResult) (s : State) : Tidy s (s.applyRudders r) := by
  refine .of_rudders ⟨rfl, le_rfl⟩ ⟨rfl, rfl⟩ ⟨rfl, rfl, rfl⟩ ⟨rfl, rfl, rfl⟩ rfl ⟨rfl, rfl, rfl, fun _ => .refl _⟩ fun hs i => ?_
  simp only [State.applyRudders, slot_ofFn]
  split
  · exact Rudder.Lawful.of_same (hs i) rfl rfl .inl
  · exact hs i

end

end Sys2Proof.Machine
end

section
/-! SUPPORT. The coupling supervisor keeps its laws. -/

namespace Sys2Proof.Machine

open Sys2Proof

variable {s t : State} {i : Fin 24} {c x : Coupling}

/-! ## Ceilings (R99) -/

/-- R99: a ceiling is at most every factor counted. -/
theorem foldl_min_le (f : Coupling → Option Nat) (l : List Coupling) (m : Nat) :
    l.foldl (fun m c => match f c with | some x => min m x | none => m) m ≤ m
      ∧ ∀ c ∈ l, ∀ x, f c = some x → l.foldl (fun m c => match f c with | some x => min m x | none => m) m ≤ x := by
  induction l generalizing m with
  | nil => exact ⟨le_rfl, fun _ h => absurd h List.not_mem_nil⟩
  | cons a l ih =>
    simp only [List.foldl_cons]
    obtain ⟨hle, hmem⟩ := ih (match f a with | some x => min m x | none => m)
    refine ⟨hle.trans ?_, fun c hc x hx => ?_⟩
    · split
      · exact min_le_left _ _
      · exact le_rfl
    · rcases List.mem_cons.mp hc with rfl | hc
      · refine hle.trans ?_
        simp [hx]
      · exact hmem c hc x hx

theorem ceilingOf_le {f : Coupling → Option Nat} {v : Vector Coupling 24} {n : Nat} (h : f v[i] = some n) :
    ceilingOf f v ≤ n :=
  (foldl_min_le f v.toList 1000).2 v[i] (by simp) n h

/-- R99: the factor of a coupling that is let go. -/
theorem thrust_let_go {p : Params} (hused : c.used = true) (hkind : c.cfg.kind ≠ .LATERAL)
    (hst : c.state = .RELEASING ∨ c.state = .RELEASED) : c.thrust p = some p.releaseThreshold := by
  obtain hst | hst := hst <;> simp [Coupling.thrust, hused, hkind, hst, thrustFactor]

/-- R99: ceilings computed from the states as they stand are low while a coupling is let go. -/
theorem ceilingLaw_of_computed (h : t.ceilings.c = ceilingOf (Coupling.thrust t.params) t.couplings) : CeilingLaw t := by
  intro i hused hkind hst
  rw [h]
  exact ceilingOf_le (i := i) (thrust_let_go hused hkind hst)

/-! ## One entry -/

/-- R85: an entry that enters a state has its command and its deadline. -/
theorem enter_lawful {st : CouplingState} {running : Bool} (hused : c.used = true) (hst : st ≠ .UNUSED)
    (hrun : running = false → st.watched = false) : (c.enter st (s.entryDeadline st)).Lawful running := by
  refine ⟨rfl, fun d hd => ?_, ⟨fun h => absurd hused (by simpa [Coupling.enter] using h), fun h => absurd h hst⟩, hrun⟩
  cases st <;> cases hd <;> rfl

/-- An entry with the same use, state, command and deadline. -/
theorem Coupling.Lawful.of_same {running : Bool} (h : c.Lawful running) (hused : x.used = c.used)
    (hst : x.state = c.state) (hcmd : x.command = c.command)
    (hd : ∀ d, x.deadline = some d → c.deadline = some d ∨ c.state = deadlineState d.kind) : x.Lawful running := by
  obtain ⟨h1, h2, h3, h4⟩ := h
  refine ⟨by rw [hcmd, hst, h1], fun d hx => ?_, by rw [hused, hst, h3], by rwa [hst]⟩
  rw [hst]
  exact (hd d hx).elim (h2 d) id

/-- R82: what is written is UNKNOWN or UNUSED. -/
theorem Coupling.fresh_lawful (used running : Bool) (cfg : CouplingCfg) (node : Option NodeRef) :
    (Coupling.fresh used cfg node).Lawful running := by
  cases used
  all_goals
    refine ⟨rfl, fun d h => ?_, by simp [Coupling.fresh], fun _ => rfl⟩
    cases h

/-! ## The operations of the coupling supervisor -/

/-- A change of the couplings, the ceilings and the pending sets alone. -/
theorem Tidy.of_couplings (h : OnlyCouplings s t) (hp : ∀ p, SameLink (s.port p) (t.port p))
    (hlaw : CouplingLaw s ∧ CeilingLaw s → CouplingLaw t ∧ CeilingLaw t) : Tidy s t := by
  obtain ⟨hbase, hhelm, -, hr, hphase, ⟨-, hf, hm⟩, he, hl⟩ := h
  have hphase : t.phase.phase = s.phase.phase := by rw [hphase]
  exact {
    engines := EnginesKept.law ⟨he.1, he.2.1⟩
    rudders := rudderLaw_of_same hr.1
    couplings := hlaw
    fuel := FuelKept.law ⟨hf, hm.1, hm.2.1⟩ (running_of_phase hphase)
    nodes := (nodesKept_of_lines hl).law
    onward := onward_of_base hbase
    coasts := EnginesKept.coasts ⟨he.1, he.2.1⟩
    links := ⟨hhelm.1, hhelm.2, hphase, hp⟩ }

theorem couplingLaw_set (hrun : t.running = s.running) (hset : t.couplings = s.couplings.set i c) (hs : CouplingLaw s)
    (hc : c.Lawful s.running) : CouplingLaw t := by
  intro j
  rw [hset, hrun, slot_set]
  split
  · exact hc
  · exact hs j

theorem link_publishCeilings (s : State) (p : Port) : SameLink (s.port p) (s.publishCeilings.port p) :=
  link_postIf _ _ { s with ceilings := s.ceilingsNow } p

/-- R85, R99: an entry enters a state that is not UNUSED, and in CONFIGURING none that must be watched. -/
theorem Tidy.enterCoupling (i : Fin 24) (c : Coupling) (st : CouplingState) (s : State)
    (hused : CouplingLaw s → c.used = true) (hst : st ≠ .UNUSED)
    (hrun : CouplingLaw s → s.running = false → st.watched = false) : Tidy s (s.enterCoupling i c st) := by
  obtain ⟨hkeep, hset, hceil⟩ := enterCoupling_keeps i c st s
  have hphase := hkeep.2.2.2.2.1
  refine .of_couplings hkeep (fun p => ?_) fun hs => ⟨?_, ?_⟩
  · have hset : SameLink (s.port p) ((s.setCoupling i (c.enter st (s.entryDeadline st))).port p) := .refl _
    exact ((hset.trans (link_post _ _ p)).trans (link_postIf _ _ _ p)).trans (link_publishCeilings _ p)
  · exact couplingLaw_set (running_of_phase (by rw [hphase])) hset hs.1
      (enter_lawful (hused hs.1) hst (hrun hs.1))
  · refine ceilingLaw_of_computed ?_
    rw [hceil, hset, hkeep.2.2.1.1]
    rfl

/-- A field of an entry changes that is none of its use, kind, state and command, and no state deadline is set. -/
theorem Tidy.setCoupling (i : Fin 24) (c : Coupling) (s : State) (hused : c.used = s.couplings[i].used)
    (hkind : c.cfg.kind = s.couplings[i].cfg.kind) (hst : c.state = s.couplings[i].state)
    (hcmd : c.command = s.couplings[i].command)
    (hd : ∀ d, c.deadline = some d → s.couplings[i].deadline = some d ∨ s.couplings[i].state = deadlineState d.kind) :
    Tidy s (s.setCoupling i c) := by
  obtain ⟨hkeep, hceil, -, hset⟩ := setCoupling_keeps s i c
  refine .of_couplings hkeep (fun _ => .refl _) fun ⟨hs, hc⟩ =>
    ⟨couplingLaw_set (s := s) rfl hset hs (Coupling.Lawful.of_same (hs i) hused hst hcmd hd), fun j => ?_⟩
  have hj := hc j
  rw [hset, slot_set]
  split
  · subst j
    rwa [hused, hkind, hst]
  · exact hj

/-- R102: in CONFIGURING no coupling is let go, whatever entry is written. -/
theorem Tidy.writeCoupling (i : Fin 24) (cfg : Option CouplingCfg) (s : State) : Tidy s (s.writeCoupling i cfg) := by
  obtain ⟨hkeep, hceil, hset⟩ := writeCoupling_keeps i cfg s
  have hfresh : ∃ b g n, s.couplings[i].written cfg = Coupling.fresh b g n := by
    cases cfg
    · exact ⟨_, _, _, rfl⟩
    · exact ⟨_, _, _, rfl⟩
  obtain ⟨b, g, n, hfresh⟩ := hfresh
  have hphase := hkeep.2.2.2.2.1
  refine .of_couplings hkeep (fun p => ?_) fun ⟨hs, hc⟩ =>
    ⟨couplingLaw_set (running_of_phase (by rw [hphase])) hset hs (hfresh ▸ Coupling.fresh_lawful ..), fun j => ?_⟩
  · exact link_postIf ..
  · have hj := hc j
    rw [hset, slot_set, hceil, hkeep.2.2.1.1, hfresh]
    split
    · intro _ _ hst
      cases b <;> simp [Coupling.fresh] at hst
    · exact hj

/-- R87: the states that are watched are states of a used entry. -/
theorem used_of_watched (hs : CouplingLaw s) (h : s.couplings[i].state.watched = true) : s.couplings[i].used = true := by
  obtain ⟨-, -, hused, -⟩ := hs i
  by_contra hno
  rw [hused.mp (by simpa using hno)] at h
  cases h

/-- R87. -/
theorem Tidy.loseSight (i : Fin 24) (c kept : Coupling) (s : State) (hused : c.used = s.couplings[i].used)
    (hst : c.state = s.couplings[i].state) (hkept : Tidy s (s.setCoupling i kept)) : Tidy s (s.loseSight i c kept) := by
  unfold State.loseSight
  split
  · rename_i hw
    exact .enterCoupling _ _ _ _ (fun hs => hused.trans (used_of_watched hs (hst ▸ hw))) (by decide) fun _ _ => rfl
  · exact hkept

theorem Tidy.winchNode (i : Fin 24) (up : Bool) (s : State) : Tidy s (s.winchNode i up) := by
  have hset : Tidy s (s.setCoupling i { s.couplings[i] with nodeAvailable := up }) :=
    .setCoupling _ _ _ rfl rfl rfl rfl fun _ => .inl
  unfold State.winchNode
  split
  · exact hset
  · exact .loseSight _ _ _ _ rfl rfl hset

/-- R87: the freshness deadline removed. -/
theorem Tidy.freshness (i : Fin 24) (s : State) :
    Tidy s (s.loseSight i s.couplings[i] { s.couplings[i] with freshness := none }) :=
  .loseSight _ _ _ _ rfl rfl (.setCoupling _ _ _ rfl rfl rfl rfl fun _ => .inl)

/-- R88: a report leads to no UNUSED entry. -/
theorem reportedState_ne_unused {g : CouplingCfg} {r : WinchReport} {st st' : CouplingState}
    (h : reportedState g r st = some st') : st' ≠ .UNUSED := by
  unfold reportedState indicated at h
  repeat' split at h
  all_goals cases h <;> decide

/-- R92: the slack dwell is started and removed in MADE_UP, its own state. -/
theorem watchSlack_deadline {dwellEnd tension : Nat} (hst : c.state = .MADE_UP) (d : StateDeadline)
    (h : (c.watchSlack dwellEnd tension).deadline = some d) : c.deadline = some d ∨ c.state = deadlineState d.kind := by
  unfold Coupling.watchSlack at h
  split at h
  · cases hd : c.deadline <;> simp [hd] at h
    · exact .inr (by rw [hst, ← h]; rfl)
    · exact .inl (by rw [h])
  · split at h
    · cases h
    · exact .inl h

theorem watchSlack_keeps (dwellEnd tension : Nat) (c : Coupling) :
    (c.watchSlack dwellEnd tension).used = c.used ∧ (c.watchSlack dwellEnd tension).cfg = c.cfg
      ∧ (c.watchSlack dwellEnd tension).state = c.state ∧ (c.watchSlack dwellEnd tension).command = c.command := by
  unfold Coupling.watchSlack
  repeat' split
  all_goals and_intros <;> rfl

/-- R86: a report of a used entry, in RUNNING. -/
theorem Tidy.winchReport (i : Fin 24) (r : WinchReport) (s : State) (hused : s.couplings[i].used = true)
    (hrun : s.running = true) : Tidy s (s.winchReport i r) := by
  unfold State.winchReport
  dsimp only
  split
  · rename_i st hst
    refine .enterCoupling _ _ _ _ (fun _ => hused) (reportedState_ne_unused hst) fun _ h => ?_
    exact absurd hrun (by simp [h])
  · split
    · rename_i hmade
      obtain ⟨h1, h2, h3, h4⟩ := watchSlack_keeps (s.after 10000) r.tension (s.couplings[i].store s.now (s.after 2000) r)
      exact .setCoupling _ _ _ h1 (by rw [h2]; rfl) h3 h4 (watchSlack_deadline hmade)
    · exact .setCoupling _ _ _ rfl rfl rfl rfl fun _ => .inl

/-- R92, R94, R97: a state deadline expires in its own state, and the entry leaves it. -/
theorem Tidy.stateExpiry (k : StateDeadlineKind) (i : Fin 24) (st : CouplingState) (s : State)
    (hd : ∃ d, s.couplings[i].deadline = some ⟨k, d⟩) (hst : st ≠ .UNUSED) :
    Tidy s (s.enterCoupling i s.couplings[i] st) := by
  obtain ⟨d, hd⟩ := hd
  have hwatched : CouplingLaw s → s.couplings[i].state.watched = true := fun hs => by
    rw [(hs i).2.1 _ hd]
    cases k <;> rfl
  refine .enterCoupling _ _ _ _ (fun hs => used_of_watched hs (hwatched hs)) hst fun hs hrun => ?_
  exact absurd (hwatched hs) (by rw [(hs i).2.2.2 hrun]; decide)

end Sys2Proof.Machine
end

section
/-! SUPPORT. The fuel chain keeps its laws: the accounts, the movement channels and the states of the tanks. -/

namespace Sys2Proof.Machine

open Sys2Proof

variable {s t : State} {i : Fin 8} {k : Fin 2}

/-! ## Channels (R136, R137) -/

/-- A channel that claims no more than before, and that runs only where it ran. -/
def Channel.Narrows (c c' : Channel) : Prop :=
  (c'.isOpen = true → c.isOpen = true ∧ c'.destination = c.destination ∧ c'.source = c.source ∧ c'.meter = c.meter
      ∧ c'.pump = c.pump ∧ c'.kind = c.kind)
    ∧ (c'.state = .RUNNING → c.state = .RUNNING)

theorem Channel.Narrows.refl (c : Channel) : c.Narrows c := ⟨fun h => ⟨h, rfl, rfl, rfl, rfl, rfl⟩, id⟩

theorem Channel.Narrows.trans {a b c : Channel} (h : a.Narrows b) (g : b.Narrows c) : a.Narrows c := by
  refine ⟨fun ho => ?_, fun hr => h.2 (g.2 hr)⟩
  obtain ⟨hb, g1, g2, g3, g4, g5⟩ := g.1 ho
  obtain ⟨ha, h1, h2, h3, h4, h5⟩ := h.1 hb
  exact ⟨ha, g1.trans h1, g2.trans h2, g3.trans h3, g4.trans h4, g5.trans h5⟩

theorem isOpen_of_running {c : Channel} (h : c.state = .RUNNING) : c.isOpen = true := by simp [Channel.isOpen, h]

section
variable {c c' : Channel} (h : c.Narrows c')
include h

theorem Channel.Narrows.tank {x : Fin 8} (hc : c'.claimsTank x = true) : c.claimsTank x = true := by
  simp only [Channel.claimsTank, Bool.and_eq_true] at hc ⊢
  obtain ⟨ho, hx⟩ := hc
  obtain ⟨ho', hd, hs, -⟩ := h.1 ho
  exact ⟨ho', by rwa [← hd, ← hs]⟩

theorem Channel.Narrows.meter {x : Fin 16} (hc : c'.claimsMeter x = true) : c.claimsMeter x = true := by
  simp only [Channel.claimsMeter, Bool.and_eq_true] at hc ⊢
  obtain ⟨ho, hx⟩ := hc
  obtain ⟨ho', -, -, hm, -⟩ := h.1 ho
  exact ⟨ho', by rwa [← hm]⟩

theorem Channel.Narrows.pump {x : NodeRef} (hc : c'.claimsPump x = true) : c.claimsPump x = true := by
  simp only [Channel.claimsPump, Bool.and_eq_true] at hc ⊢
  obtain ⟨ho, hx⟩ := hc
  obtain ⟨ho', -, -, -, hp, -⟩ := h.1 ho
  exact ⟨ho', by rwa [← hp]⟩

theorem Channel.Narrows.closed (hc : c.isOpen = false) : c'.isOpen = false := by
  by_contra ho
  exact absurd (h.1 (by simpa using ho)).1 (by simp [hc])

end

theorem openChannels_eq (s : State) :
    s.openChannels = s.channels[(0 : Fin 2)].isOpen.toNat + s.channels[(1 : Fin 2)].isOpen.toNat := by
  simp only [State.openChannels, List.finRange_succ, List.finRange_zero, List.map_nil, List.map_cons, List.countP_cons,
    List.countP_nil]
  cases s.channels[(0 : Fin 2)].isOpen <;> cases h : s.channels[(1 : Fin 2)].isOpen <;> simp_all

/-- R137, R151, R153: channels that narrow, with the records and the open channels no more than before. -/
theorem movementLaw_of_narrows (hn : ∀ k : Fin 2, s.channels[k].Narrows t.channels[k])
    (hcount : t.records.length + t.openChannels ≤ s.records.length + s.openChannels) (hrun : t.running = s.running)
    (hs : MovementLaw s) : MovementLaw t := by
  obtain ⟨h1, h2, h3, h4, h5⟩ := hs
  refine ⟨hcount.trans h1, fun x hx => h2 x ?_, fun x hx => h3 x ?_, fun x hx => h4 x ?_, fun hx => ?_⟩
  · exact ⟨(hn 0).tank hx.1, (hn 1).tank hx.2⟩
  · exact ⟨(hn 0).meter hx.1, (hn 1).meter hx.2⟩
  · exact ⟨(hn 0).pump hx.1, (hn 1).pump hx.2⟩
  · exact ⟨(hn 0).closed (h5 (hrun ▸ hx)).1, (hn 1).closed (h5 (hrun ▸ hx)).2⟩

/-- R146: what a channel that runs asks of the tanks. -/
def Channel.FlowFits (tanks : Vector Tank 8) (c : Channel) : Prop :=
  c.state = .RUNNING →
    (∀ x, c.kind = some .TRANSFER → c.source = some x → tanks[x].state ≠ some .RESERVE ∧ tanks[x].state ≠ some .EMPTY)
    ∧ ∀ x, c.destination = some x → tanks[x].state ≠ some .HIGH

theorem flowLaw_iff (s : State) : FlowLaw s ↔ ∀ k : Fin 2, s.channels[k].FlowFits s.tanks := Iff.rfl

theorem Channel.FlowFits.of_narrows {tanks : Vector Tank 8} {c c' : Channel} (h : c.FlowFits tanks) (hn : c.Narrows c') :
    c'.FlowFits tanks := by
  intro hr
  obtain ⟨-, hd, hs, -, -, hk⟩ := hn.1 (isOpen_of_running hr)
  rw [hd, hs, hk]
  exact h (hn.2 hr)

/-! ## What changes the fuel chain alone -/

/-- A change of the tanks, the channels, the records and of what no law reads. -/
theorem Tidy.of_fuel (hon : Onward s t) (he : EnginesKept s t) (hr : t.rudders = s.rudders) (hc : CouplingsKept s t) (hl : t.lines = s.lines)
    (hlinks : SameLinks s t)
    (hlaw : AccountLaw s ∧ MovementLaw s ∧ FlowLaw s → AccountLaw t ∧ MovementLaw t ∧ FlowLaw t) : Tidy s t where
  engines := he.law
  rudders := rudderLaw_of_same hr
  couplings := hc.law (running_of_phase hlinks.2.2.1)
  fuel := hlaw
  nodes := (nodesKept_of_lines hl).law
  onward := hon
  coasts := he.coasts
  links := hlinks

theorem accountLaw_of_tanks (h : t.tanks = s.tanks) (hs : AccountLaw s) : AccountLaw t := by
  simpa only [AccountLaw, h] using hs

theorem flowLaw_of_narrows (htanks : t.tanks = s.tanks) (hn : ∀ k : Fin 2, s.channels[k].Narrows t.channels[k])
    (hs : FlowLaw s) : FlowLaw t := fun k => by
  rw [htanks]
  exact Channel.FlowFits.of_narrows (hs k) (hn k)

/-- A change of the channels and the records alone, by which the channels narrow. -/
theorem Tidy.of_channels (h : OnlyChannels s t) (hp : ∀ p, SameLink (s.port p) (t.port p))
    (hn : ∀ k : Fin 2, s.channels[k].Narrows t.channels[k])
    (hcount : t.records.length + t.openChannels ≤ s.records.length + s.openChannels) : Tidy s t := by
  obtain ⟨⟨hbase, hhelm, halloc, hr, hc, hphase⟩, he, -, htanks, -, hl⟩ := h
  have hphase : t.phase.phase = s.phase.phase := by rw [hphase]
  exact .of_fuel (onward_of_base hbase) ⟨he.1, he.2.1⟩ hr.1 ⟨hc.1, hc.2, halloc.1⟩ hl ⟨hhelm.1, hhelm.2, hphase, hp⟩
    fun ⟨ha, hm, hf⟩ => ⟨accountLaw_of_tanks htanks ha, movementLaw_of_narrows hn hcount (running_of_phase hphase) hm,
      flowLaw_of_narrows htanks hn hf⟩

theorem channel_setChannel (s : State) (k j : Fin 2) (c : Channel) :
    (s.setChannel k c).channels[j] = if k = j then c else s.channels[j] := by
  rw [(setChannel_keeps s k c).2.2.2, slot_set]

theorem openChannels_setChannel (k : Fin 2) (c : Channel) (s : State) :
    (s.setChannel k c).openChannels + s.channels[k].isOpen.toNat = s.openChannels + c.isOpen.toNat := by
  rw [openChannels_eq, openChannels_eq, channel_setChannel, channel_setChannel]
  match k with
  | 0 => simp only [if_true, Fin.reduceEq, if_false]; omega
  | 1 => simp only [if_true, Fin.reduceEq, if_false]; omega

theorem openChannels_close {c : Channel} (h : s.channels[k].isOpen = true) (hc : c.isOpen = false) :
    (s.setChannel k c).openChannels + 1 = s.openChannels := by
  simpa only [h, hc, Bool.toNat_true, Bool.toNat_false, Nat.add_zero] using openChannels_setChannel k c s

/-- One channel changes, and narrows. -/
theorem Tidy.setChannel (k : Fin 2) (c : Channel) (s : State) (hn : s.channels[k].Narrows c) :
    Tidy s (s.setChannel k c) := by
  obtain ⟨hkeep, hrec, -, -⟩ := setChannel_keeps s k c
  have hall : ∀ j : Fin 2, s.channels[j].Narrows (s.setChannel k c).channels[j] := fun j => by
    rw [channel_setChannel]
    split
    · subst j
      exact hn
    · exact .refl _
  refine .of_channels hkeep (fun _ => .refl _) hall ?_
  have hcount := openChannels_setChannel k c s
  have hopen : c.isOpen.toNat ≤ s.channels[k].isOpen.toNat := Bool.toNat_le_toNat (hn.1 · |>.1)
  rw [hrec]
  omega

/-- R145: a channel that stops keeps its claims. -/
theorem Tidy.stopChannel (k : Fin 2) (reason : StopReason) (s : State) : Tidy s (s.stopChannel k reason) := by
  unfold State.stopChannel
  dsimp only
  split
  · rename_i hr
    exact .setChannel _ _ _ ⟨fun _ => ⟨isOpen_of_running hr, rfl, rfl, rfl, rfl, rfl⟩, fun h => by cases h⟩
  · exact .refl _

/-- R150, R151: a channel that closes makes room for its record. -/
theorem Tidy.closeWith (k : Fin 2) (c : Channel) (r : MovementRecord) (s : State) (hopen : s.channels[k].isOpen = true)
    (hidle : c.state = .IDLE) : Tidy s ({ s with records := s.records ++ [r] }.setChannel k c) := by
  have hc : c.isOpen = false := by rw [Channel.isOpen, hidle]; rfl
  refine .of_channels (by and_intros <;> rfl) (fun _ => .refl _) (fun j => ?_) ?_
  · rw [channel_setChannel]
    split
    · exact ⟨fun h => by simp [hc] at h, fun h => by simp [hidle] at h⟩
    · exact .refl _
  · have hcount : _ + 1 = s.openChannels := openChannels_close (s := { s with records := s.records ++ [r] }) hopen hc
    rw [(setChannel_keeps ..).2.1, List.length_append, List.length_singleton, ← hcount]
    omega

theorem Tidy.closeChannel (k : Fin 2) (s : State) : Tidy s (s.closeChannel k) := by
  unfold State.closeChannel
  dsimp only
  split
  · rename_i hst
    exact (Tidy.closeWith k _ _ s (by rw [Channel.isOpen, hst]; rfl) rfl).trans (.post _ _)
  · exact .refl _

/-- R152: a record retired. -/
theorem Tidy.dropRecord (r : MovementRecord) (rest : List MovementRecord) (s : State) (h : s.records = r :: rest) :
    Tidy s { s with records := rest } := by
  refine .of_channels (by and_intros <;> rfl) (fun _ => .refl _) (fun _ => .refl _) ?_
  rw [h, List.length_cons]
  exact Nat.add_le_add_right (Nat.le_succ _) _

/-! ## A tank's new state at the channels (R146) -/

/-- R145: a channel as it stops. -/
def Channel.stop (reason : StopReason) (second settling : Nat) (c : Channel) : Channel :=
  if c.state = .RUNNING then
    { c with
      state := .SETTLING, stopReason := some reason, stopSecond := some second, settling := some settling
      zeroReports := 0 }
  else c

theorem stopChannel_channel (k j : Fin 2) (reason : StopReason) (s : State) :
    (s.stopChannel k reason).channels[j] =
      if k = j then s.channels[j].stop reason s.phase.seconds (s.after 5000) else s.channels[j] := by
  unfold State.stopChannel Channel.stop
  dsimp only
  by_cases hk : k = j
  · subst k
    split <;> simp only [channel_setChannel, if_true]
  · split <;> simp only [channel_setChannel, if_neg hk]

theorem stop_narrows (reason : StopReason) (second settling : Nat) (c : Channel) :
    c.Narrows (c.stop reason second settling) := by
  unfold Channel.stop
  split
  · rename_i hr
    exact ⟨fun _ => ⟨isOpen_of_running hr, rfl, rfl, rfl, rfl, rfl⟩, fun h => by cases h⟩
  · exact .refl _

theorem stop_not_running (reason : StopReason) (second settling : Nat) (c : Channel) :
    (c.stop reason second settling).state ≠ .RUNNING := by
  unfold Channel.stop
  split
  · exact fun h => by cases h
  · assumption

/-- R146: whether a tank's state lets a channel run. -/
def Channel.mayRun (x : Fin 8) (st : TankState) (c : Channel) : Prop :=
  ¬(c.kind = some .TRANSFER ∧ c.source = some x ∧ (st = .RESERVE ∨ st = .EMPTY)) ∧ ¬(c.destination = some x ∧ st = .HIGH)

/-- R146: a channel takes a tank's new state. -/
def State.heedTank (x : Fin 8) (st : TankState) (s : State) (k : Fin 2) : State :=
  let c := s.channels[k]
  if c.state = .RUNNING ∧ c.kind = some .TRANSFER ∧ c.source = some x ∧ (st = .RESERVE ∨ st = .EMPTY) then
    s.stopChannel k .SOURCE_RESERVE
  else if c.state = .RUNNING ∧ c.destination = some x ∧ st = .HIGH then s.stopChannel k .DESTINATION_HIGH
  else s

theorem movementTankState_eq (x : Fin 8) (st : TankState) (s : State) :
    s.movementTankState x st = (s.heedTank x st 0).heedTank x st 1 := rfl

theorem heedTank_other {x : Fin 8} {st : TankState} {k j : Fin 2} (h : k ≠ j) (s : State) :
    (s.heedTank x st k).channels[j] = s.channels[j] := by
  unfold State.heedTank
  dsimp only
  repeat' split
  all_goals simp only [stopChannel_channel, if_neg h]

/-- R146: a channel that heeds a tank narrows, and runs on only where the state lets it. -/
theorem heedTank_self (x : Fin 8) (st : TankState) (k : Fin 2) (s : State) :
    s.channels[k].Narrows (s.heedTank x st k).channels[k]
      ∧ ((s.heedTank x st k).channels[k].state = .RUNNING →
        (s.heedTank x st k).channels[k].mayRun x st) := by
  unfold State.heedTank
  dsimp only
  split
  · simp only [stopChannel_channel, if_true]
    exact ⟨stop_narrows .., fun h => absurd h (stop_not_running _ _ _ _)⟩
  · split
    · simp only [stopChannel_channel, if_true]
      exact ⟨stop_narrows .., fun h => absurd h (stop_not_running _ _ _ _)⟩
    · rename_i h1 h2
      exact ⟨.refl _, fun hr => ⟨fun h => h1 ⟨hr, h⟩, fun h => h2 ⟨hr, h⟩⟩⟩

theorem movementTankState_channel (x : Fin 8) (st : TankState) (s : State) (k : Fin 2) :
    s.channels[k].Narrows (s.movementTankState x st).channels[k]
      ∧ ((s.movementTankState x st).channels[k].state = .RUNNING →
        (s.movementTankState x st).channels[k].mayRun x st) := by
  rw [movementTankState_eq]
  match k with
  | 0 =>
    rw [heedTank_other (by decide)]
    exact heedTank_self x st 0 s
  | 1 =>
    have h := heedTank_self x st 1 (s.heedTank x st 0)
    rwa [heedTank_other (by decide)] at h

end Sys2Proof.Machine
end

section
/-! SUPPORT. The fuel account, the meter unit and the start of a movement keep the laws of the fuel chain. -/

namespace Sys2Proof.Machine

open Sys2Proof

variable {s t : State} {i : Fin 8} {k : Fin 2}

/-! ## Accounts (R123, R124) -/

/-- Where nothing was carried beyond its range, each field has changed in full. -/
theorem book_lawful (b : Booking) (v : Int) (a : Account) (h : a.Lawful) : (a.book' b v).Lawful := by
  intro hsat
  cases b
  all_goals
    simp only [Account.book', Bool.or_eq_false_iff, decide_eq_false_iff_not, ne_eq, not_not] at hsat ⊢
    obtain ⟨⟨hs, h1⟩, h2⟩ := hsat
    have := h hs
    rw [h1, h2]
    omega

/-- R131: a content set afresh. -/
theorem rebase_lawful (v : Int) : ({ Account.por with book := v, opening := v } : Account).Lawful := by
  intro _
  simp [Account.por]

/-! ## One tank -/

/-- What a booking, a sounding, a test or a write does to a tank: its account keeps its law, and its state stays, or is
taken away. -/
def Tank.Keeps (x y : Tank) : Prop := (x.account.Lawful → y.account.Lawful) ∧ (y.state = x.state ∨ y.state = none)

theorem Tidy.setTank (i : Fin 8) (x : Tank) (s : State) (h : s.tanks[i].Keeps x) : Tidy s (s.setTank i x) := by
  refine .of_fuel ⟨rfl, le_rfl⟩ ⟨rfl, rfl⟩ rfl ⟨rfl, rfl, rfl⟩ rfl ⟨rfl, rfl, rfl, fun _ => .refl _⟩ fun ⟨ha, hm, hf⟩ =>
    ⟨fun j => ?_, hm, fun k => ?_⟩
  · rw [(setTank_keeps s i x).2.2.2.2.2.2, slot_set]
    split
    · exact h.1 (ha i)
    · exact ha j
  · have hst : ∀ (j : Fin 8) (st : TankState), s.tanks[j].state ≠ some st → (s.setTank i x).tanks[j].state ≠ some st := by
      intro j st hj
      rw [(setTank_keeps s i x).2.2.2.2.2.2, slot_set]
      split
      · subst j
        obtain h | h := h.2
        · rwa [h]
        · simp [h]
      · exact hj
    intro hr
    obtain ⟨hs, hd⟩ := hf k hr
    exact ⟨fun j hk hj => ⟨hst _ _ (hs j hk hj).1, hst _ _ (hs j hk hj).2⟩, fun j hj => hst _ _ (hd j hj)⟩

theorem discTest_keeps_tank (now : Nat) (x : Tank) : x.Keeps (x.discTest now) := by
  unfold Tank.discTest
  repeat' split
  all_goals exact ⟨id, .inl rfl⟩

theorem Tidy.discTest (i : Fin 8) (s : State) : Tidy s (s.discTest i) := .setTank _ _ _ (discTest_keeps_tank ..)

theorem Tidy.bookFields (b : Booking) (v : Int) (i : Fin 8) (s : State) : Tidy s (s.bookFields b v i) := by
  unfold State.bookFields
  dsimp only
  split
  · exact .setTank _ _ _ ⟨book_lawful b v _, .inl rfl⟩
  · exact .refl _

/-! ## A derivation (R127, R128, R146) -/

/-- R128: the state of a tank, the feed of its engines and the channels that heed it change together. The channels heed it
last, so the laws of the fuel chain hold at the end and not between. -/
theorem Tidy.deriveTank (i : Fin 8) (s : State) : Tidy s (s.deriveTank i) := by
  unfold State.deriveTank
  dsimp only
  split
  swap
  · exact .refl _
  split
  · exact .refl _
  generalize deriveTankState s.tanks[i].cfg s.tanks[i].levelUsed (s.tanks[i].state.getD .NORMAL) = st
  generalize hu : State.post .TANK_CHANGED (s.setTank i { s.tanks[i] with state := some st }) = u
  have hfeed := Tidy.feedChanged i (feedLevelOf (some st)) u
  have hon : Onward s _ := Onward.trans (hu ▸ ⟨rfl, le_rfl⟩ : Onward s u) hfeed.onward
  have hfeedFrame := feedChanged_keeps i (feedLevelOf (some st)) u
  generalize u.feedChanged i (feedLevelOf (some st)) = v at hfeed hon hfeedFrame
  have hheed := movementTankState_channel i st v
  have hframe := movementTankState_keeps i st v
  generalize v.movementTankState i st = w at hheed hframe
  obtain ⟨⟨⟨hbase, hhelm, halloc, hr, hc, hphase⟩, he, -, htanks, -, hlines⟩, hrec, hports⟩ := hframe
  obtain ⟨⟨-, -, -, -, -, -⟩, ⟨-, htanks', hmove⟩, -, hlines'⟩ := hfeedFrame
  have hlinks : SameLinks s w := by
    refine SameLinks.trans (hu ▸ sameLinks_post _ (s.setTank i _) : SameLinks s u) (hfeed.links.trans ?_)
    exact sameLinks_of_ports hhelm.1 hhelm.2 (by rw [hphase]) hports
  have hchannels : v.channels = s.channels := hmove.1.trans (hu ▸ rfl)
  have htank : w.tanks = s.tanks.set i { s.tanks[i] with state := some st } := htanks.trans (htanks'.trans (hu ▸ rfl))
  have hkept : EnginesKept v w := ⟨he.1, he.2.1⟩
  have hnarrow : ∀ k : Fin 2, s.channels[k].Narrows w.channels[k] := fun k => hchannels ▸ (hheed k).1
  exact {
    engines := fun h => hkept.law (hfeed.engines (hu ▸ h))
    rudders := fun h => rudderLaw_of_same hr.1 (hfeed.rudders (hu ▸ h))
    couplings := fun h => CouplingsKept.law ⟨hc.1, hc.2, halloc.1⟩ (running_of_phase (by rw [hphase]))
      (hfeed.couplings (hu ▸ h))
    nodes := fun h => (nodesKept_of_lines hlines).law (hfeed.nodes (hu ▸ h))
    onward := Onward.trans hon (onward_of_base hbase)
    coasts := fun j => ((hu ▸ hfeed.coasts j) : s.engines[j].Coasts v.engines[j]).trans (hkept.coasts j)
    links := hlinks
    fuel := fun ⟨ha, hm, hf⟩ => by
      refine ⟨fun j => ?_, movementLaw_of_narrows hnarrow ?_ (running_of_phase hlinks.2.2.1) hm, fun k hrun => ?_⟩
      · rw [htank, slot_set]
        split
        · exact ha i
        · exact ha j
      · have hcount : w.records.length = s.records.length := by rw [hrec, hmove.2.1, ← hu]; rfl
        rw [hcount, openChannels_eq, openChannels_eq]
        exact Nat.add_le_add_left (Nat.add_le_add (Bool.toNat_le_toNat fun h => ((hnarrow 0).1 h).1)
          (Bool.toNat_le_toNat fun h => ((hnarrow 1).1 h).1)) _
      · obtain ⟨hs, hd⟩ := (Channel.FlowFits.of_narrows (hf k) (hnarrow k)) hrun
        obtain ⟨hsource, hdest⟩ := (hheed k).2 hrun
        refine ⟨fun x hk hx => ?_, fun x hx => ?_⟩
        · rw [htank, slot_set]
          split
          · subst x
            exact ⟨fun h => hsource ⟨hk, hx, .inl (by simpa using h)⟩, fun h => hsource ⟨hk, hx, .inr (by simpa using h)⟩⟩
          · exact hs x hk hx
        · rw [htank, slot_set]
          split
          · subst x
            exact fun h => hdest ⟨hx, by simpa using h⟩
          · exact hd x hx }

theorem Tidy.deriveSounded (i : Fin 8) (s : State) : Tidy s (s.deriveSounded i) := by
  unfold State.deriveSounded
  split
  · exact .deriveTank i s
  · exact .refl s

/-! ## Bookings (R123, R143) -/

theorem Tidy.bookTank (b : Booking) (v : Int) (i : Fin 8) (s : State) : Tidy s (s.bookTank b v i) :=
  ((Tidy.bookFields b v i s).trans (.deriveTank i _)).trans (.discTest i _)

theorem Tidy.bookTransfer (v : Int) (src dst : Fin 8) (s : State) : Tidy s (s.bookTransfer v src dst) :=
  (((((Tidy.bookFields .transferOut v src s).trans (.bookFields .transferIn v dst _)).trans (.deriveTank src _)).trans
    (.deriveTank dst _)).trans (.discTest src _)).trans (.discTest dst _)

theorem Tidy.bookMovementTanks (c : Channel) (q : Nat) (s : State) : Tidy s (s.bookMovementTanks c q) := by
  unfold State.bookMovementTanks
  split
  · exact .bookTank ..
  · exact .bookTransfer ..
  · exact .refl _

theorem bookMoved_narrows (q : Nat) (zero : Bool) (c : Channel) : c.Narrows (c.bookMoved q zero) := by
  unfold Channel.bookMoved
  dsimp only
  split
  · exact ⟨fun h => ⟨h, rfl, rfl, rfl, rfl, rfl⟩, id⟩
  · exact ⟨fun h => ⟨h, rfl, rfl, rfl, rfl, rfl⟩, id⟩

theorem Tidy.bookMovement (k : Fin 2) (q : Nat) (zero : Bool) (s : State) : Tidy s (s.bookMovement k q zero) := by
  unfold State.bookMovement
  dsimp only
  have h1 := Tidy.setChannel k _ s (bookMoved_narrows q zero s.channels[k])
  generalize s.setChannel k (s.channels[k].bookMoved q zero) = u at h1
  have h2 : Tidy u (if (s.channels[k].bookMoved q zero).countReached then u.stopChannel k .COUNT_REACHED else u) :=
    .ite (fun _ => .stopChannel ..) fun _ => .refl _
  exact .ite (fun _ => ((h1.trans h2).trans (.bookMovementTanks ..)).trans (.closeChannel ..))
    fun _ => (h1.trans h2).trans (.bookMovementTanks ..)

/-! ## The fuel account (R129 to R133) -/

theorem Tidy.rebaseTank (i : Fin 8) (v : Int) (s : State) : Tidy s (s.rebaseTank i v) :=
  ((Tidy.setTank i (s.tanks[i].rebase v) s ⟨fun _ => rebase_lawful v, .inl rfl⟩).trans (.deriveTank i _)).trans (.discTest i _)

theorem Tidy.writeTankLive (i : Fin 8) (src : StateSource) (limit : Nat) (s : State) :
    Tidy s (s.writeTankLive i src limit) := by
  unfold State.writeTankLive
  dsimp only
  have h1 := Tidy.setTank i { s.tanks[i] with cfg := { s.tanks[i].cfg with source := src, limit := limit } } s
    ⟨id, .inl rfl⟩
  generalize s.setTank i { s.tanks[i] with cfg := { s.tanks[i].cfg with source := src, limit := limit } } = u at h1 ⊢
  have h2 : Tidy u (if s.tanks[i].cfg.source = src then u else u.deriveTank i) :=
    .ite (fun _ => .refl _) fun _ => .deriveTank ..
  exact .ite (fun _ => h1.trans h2) fun _ => (h1.trans h2).trans (.discTest ..)

theorem sounded_keeps (r : TankReport) (x : Tank) : x.Keeps (x.sounded r) := by
  unfold Tank.sounded
  split <;> exact ⟨id, .inl rfl⟩

theorem Tidy.tankReport (i : Fin 8) (r : TankReport) (s : State) : Tidy s (s.tankReport i r) :=
  ((Tidy.setTank i _ s (sounded_keeps r _)).trans (.deriveSounded i _)).trans (.discTest i _)

theorem Tidy.tankNode (i : Fin 8) (st : NodeState) (s : State) : Tidy s (s.tankNode i st) := by
  unfold State.tankNode
  exact .ite (fun _ => .refl _) fun _ => (Tidy.setTank i s.tanks[i].soundingLost s ⟨id, .inl rfl⟩).trans (.deriveSounded i _)

/-- R122: an entry written keeps its account and its state, or has none. -/
theorem written_keeps (cfg : Option TankCfg) (x : Tank) : x.Keeps (x.written cfg) := by
  cases cfg with
  | none => exact ⟨fun _ _ => rfl, .inr rfl⟩
  | some g => exact ⟨id, .inl rfl⟩

/-! ## The meter unit (R107 to R118) -/

/-- A change of the meters, the totals and the estimation timer. -/
theorem Tidy.of_meters (ms : Vector Meter 16) (totals : Vector EngineTotals 8) (timer : Option Nat) (s : State) :
    Tidy s { s with meters := ms, totals := totals, estimationTimer := timer } :=
  .of_kept ⟨rfl, le_rfl⟩ ⟨rfl, rfl⟩ rfl ⟨rfl, rfl, rfl⟩ ⟨rfl, rfl, rfl⟩ (fun _ => rfl) ⟨rfl, rfl, rfl, fun _ => .refl _⟩

theorem Tidy.setMeter (i : Fin 16) (m : Meter) (s : State) : Tidy s (s.setMeter i m) := .of_meters ..

theorem Tidy.bookMetered (e : Fin 8) (net : Int) (s : State) : Tidy s (s.bookMetered e net) :=
  (Tidy.of_meters _ _ _ s).trans (.bookTank ..)

theorem Tidy.bookEstimated (e : Fin 8) (est : Nat) (s : State) : Tidy s (s.bookEstimated e est) :=
  (Tidy.of_meters _ _ _ s).trans (.bookTank ..)

theorem Tidy.strayFlow (i : Fin 16) (q : Nat) (s : State) : Tidy s (s.strayFlow i q) :=
  (Tidy.setMeter i _ s).trans (.postIf ..)

theorem Tidy.engineMeterReport (i : Fin 16) (r : MeterReport) (s : State) : Tidy s (s.engineMeterReport i r) := by
  unfold State.engineMeterReport
  dsimp only
  split
  · exact .ite (fun _ => ((Tidy.setMeter i _ s).trans (.postIf ..)).trans (.bookMetered ..))
      fun _ => (Tidy.setMeter i _ s).trans (.postIf ..)
  · exact (Tidy.setMeter i _ s).trans (.postIf ..)

theorem Tidy.flowMeterReport (i : Fin 16) (r : MeterReport) (s : State) : Tidy s (s.flowMeterReport i r) := by
  unfold State.flowMeterReport
  dsimp only
  split
  · exact ((Tidy.setMeter i _ s).trans (.postIf ..)).trans (.bookMovement ..)
  · exact (Tidy.setMeter i _ s).trans (.postIf ..)
  · exact ((Tidy.setMeter i _ s).trans (.postIf ..)).trans (.strayFlow ..)

theorem Tidy.meterReport (i : Fin 16) (r : MeterReport) (s : State) : Tidy s (s.meterReport i r) := by
  unfold State.meterReport
  dsimp only
  refine .ite (fun _ => .setMeter ..) fun _ => ?_
  split
  · exact .engineMeterReport ..
  · exact .flowMeterReport ..
  · exact .flowMeterReport ..

theorem Tidy.meterLost (i : Fin 16) (s : State) : Tidy s (s.meterLost i) := by
  unfold State.meterLost
  exact .ite (fun _ => (Tidy.setMeter ..).trans (.post ..)) fun _ => .setMeter ..

theorem Tidy.meterNode (i : Fin 16) (st : NodeState) (s : State) : Tidy s (s.meterNode i st) := by
  unfold State.meterNode
  exact .ite (fun _ => (Tidy.setMeter ..).trans (.meterLost ..)) fun _ => .setMeter ..

theorem Tidy.estimateSecond (i : Fin 16) (e : Fin 8) (s : State) : Tidy s (s.estimateSecond i e) := by
  have hat : ∀ rack hold, Tidy s (s.estimateAt i e rack hold) := fun rack hold =>
    (Tidy.setMeter i _ s).trans (.bookEstimated ..)
  unfold State.estimateSecond
  dsimp only
  refine .ite (fun _ => ?_) fun _ => .ite (fun _ => hat ..) fun _ => .of_meters ..
  split
  · exact .ite (fun _ => hat ..) fun _ => .setMeter ..
  · exact .setMeter ..

theorem Tidy.estimateAll (s : State) : Tidy s s.estimateAll := by
  refine .foldl _ (fun s i => ?_) _ s
  split
  · exact .estimateSecond ..
  · exact .refl _

/-! ## Movements (R141, R142, R147 to R149) -/

theorem Tidy.movementNode (node : MovementNode) (st : NodeState) (s : State) : Tidy s (s.movementNode node st) := by
  unfold State.movementNode
  split
  · unfold State.channelLoses
    split
    · exact .stopChannel ..
    · exact .closeChannel ..
    · exact .stopChannel ..
    · exact .refl _
  · exact .refl _

theorem Tidy.pumpReport (l : Line) (a : Nat) (st : PumpStatus) (s : State) : Tidy s (s.pumpReport l a st) := by
  unfold State.pumpReport
  split
  · exact .refl _
  · have hset : ∀ c : Fin 2, Tidy s (s.setChannel c { s.channels[c] with lastPump := some st }) := fun c =>
      .setChannel _ _ _ ⟨fun h => ⟨h, rfl, rfl, rfl, rfl, rfl⟩, id⟩
    exact .ite (fun _ => (hset _).trans (.stopChannel ..)) fun _ => hset _

/-! ## The start of a movement (R140, R141) -/

theorem claimsTank_iff (c : Channel) (y : Fin 8) :
    c.claimsTank y = true ↔ c.isOpen = true ∧ (c.destination = some y ∨ c.source = some y) := by
  rw [Channel.claimsTank, Bool.and_eq_true, Bool.or_eq_true, decide_eq_true_iff, decide_eq_true_iff]

/-- R140, check 3: what a start claims, the other channel does not. -/
theorem started_claims {x : Start} {n sec : Nat} {c : Channel} (h : c.claimsAny x = false) :
    (∀ y, ¬((Channel.started x n sec).claimsTank y = true ∧ c.claimsTank y = true))
      ∧ (∀ y, ¬((Channel.started x n sec).claimsMeter y = true ∧ c.claimsMeter y = true))
      ∧ ∀ y, ¬((Channel.started x n sec).claimsPump y = true ∧ c.claimsPump y = true) := by
  simp only [Channel.claimsAny, Bool.or_eq_false_iff] at h
  obtain ⟨⟨⟨hdest, hsource⟩, hmeter⟩, hpump⟩ := h
  refine ⟨fun y hy => ?_, fun y hy => ?_, fun y hy => ?_⟩
  · rw [claimsTank_iff, claimsTank_iff] at hy
    obtain ⟨⟨-, hd | hs⟩, hc⟩ := hy
    · obtain rfl : x.destination = y := Option.some.inj hd
      exact absurd ((claimsTank_iff c _).mpr hc) (by simp [hdest])
    · rw [show x.source = some y from hs] at hsource
      exact absurd ((claimsTank_iff c _).mpr hc) (by simpa using hsource)
  · simp only [Channel.claimsMeter, Channel.started, Bool.and_eq_true, decide_eq_true_eq, Option.some.injEq] at hy
    obtain ⟨⟨-, rfl⟩, hc⟩ := hy
    exact absurd hmeter (by simpa [Channel.claimsMeter] using hc)
  · simp only [Channel.claimsPump, Channel.started, Bool.and_eq_true, decide_eq_true_eq, Option.some.injEq] at hy
    obtain ⟨⟨-, rfl⟩, hc⟩ := hy
    exact absurd hpump (by simpa [Channel.claimsPump] using hc)

/-- R140, checks 5 and 6: a start finds its tanks neither too low nor too full. -/
theorem started_flowFits {x : Start} {n sec : Nat} (hlow : s.sourceLow x = false) (hroom : s.noRoom x = false) :
    (Channel.started x n sec).FlowFits s.tanks := by
  intro _
  simp only [State.noRoom, Bool.or_eq_false_iff, decide_eq_false_iff_not] at hroom
  refine ⟨fun y _ hy => ?_, fun y hy => ?_⟩
  · rw [State.sourceLow, show x.source = some y from hy] at hlow
    simpa using hlow
  · obtain rfl : x.destination = y := by simpa [Channel.started] using hy
    exact hroom.1

/-- R137: a channel that shares no claim with the other one, in its place. -/
theorem noneShared_of_other {α : Type} {f : Channel → α → Bool} {c : Fin 2} {ch : Channel}
    (ht : ∀ j : Fin 2, t.channels[j] = if c = j then ch else s.channels[j])
    (h : ∀ y, ¬(f ch y = true ∧ f s.channels[otherChannel c] y = true)) (y : α) :
    ¬(f t.channels[(0 : Fin 2)] y = true ∧ f t.channels[(1 : Fin 2)] y = true) := by
  rw [ht 0, ht 1]
  match c with
  | 0 => exact h y
  | 1 => exact fun hy => h y hy.symm

/-- R141: a start that passes the seven checks, in RUNNING. -/
theorem Tidy.acceptStart (c : Fin 2) (x : Start) (s : State) (hrun : s.running = true)
    (hclaims : s.channels[otherChannel c].claimsAny x = false)
    (hfull : ¬ 16 ≤ s.records.length + s.openChannels) (hlow : s.sourceLow x = false) (hroom : s.noRoom x = false) :
    Tidy s (({ s with nextMovement := nextNumber s.nextMovement }).setChannel c
      (Channel.started x s.nextMovement s.phase.seconds)) := by
  obtain ⟨htank, hmeter, hpump⟩ := started_claims (n := s.nextMovement) (sec := s.phase.seconds) hclaims
  have hfits := started_flowFits (n := s.nextMovement) (sec := s.phase.seconds) hlow hroom
  generalize Channel.started x s.nextMovement s.phase.seconds = ch at htank hmeter hpump hfits ⊢
  refine .of_fuel ⟨rfl, le_rfl⟩ ⟨rfl, rfl⟩ rfl ⟨rfl, rfl, rfl⟩ rfl ⟨rfl, rfl, rfl, fun _ => .refl _⟩ fun ⟨ha, hm, hf⟩ => ⟨ha, ?_⟩
  have hchan := fun j => channel_setChannel { s with nextMovement := nextNumber s.nextMovement } c j ch
  have hrec : (State.setChannel { s with nextMovement := nextNumber s.nextMovement } c ch).records = s.records := rfl
  have htanks : (State.setChannel { s with nextMovement := nextNumber s.nextMovement } c ch).tanks = s.tanks := rfl
  have hrun' : (State.setChannel { s with nextMovement := nextNumber s.nextMovement } c ch).running = true := hrun
  have hcount : _ + s.channels[c].isOpen.toNat ≤ s.openChannels + 1 :=
    (openChannels_setChannel c ch { s with nextMovement := nextNumber s.nextMovement }).le.trans
      (Nat.add_le_add_left (Bool.toNat_le _) _)
  generalize State.setChannel { s with nextMovement := nextNumber s.nextMovement } c ch = u at *
  refine ⟨⟨?_, noneShared_of_other hchan htank, noneShared_of_other hchan hmeter, noneShared_of_other hchan hpump,
    fun h => absurd hrun' (by simp [h])⟩, fun k => ?_⟩
  · rw [hrec]
    omega
  · rw [hchan, htanks]
    split
    · exact hfits
    · exact hf k

end Sys2Proof.Machine
end

section
/-! SUPPORT. The field lines keep the law of the nodes (R164): every outcome of a poll leaves failures that fit the state. -/

namespace Sys2Proof.Machine

open Sys2Proof

variable {s t : State} {l : Line} {i : Fin 32} {c c' : LineCtl} {e : NodeEntry}

/-! ## The law of one list (R164) -/

/-- R164: `NodeLaw` of one list. -/
def LineCtl.Fit (c : LineCtl) : Prop := ∀ (i : Fin 32) (e : NodeEntry), c.nodes[i] = some e → failuresFit e = true

theorem nodeLaw_iff (s : State) : NodeLaw s ↔ ∀ l, (s.line l).Fit := Iff.rfl

theorem LineCtl.Fit.of_nodes (h : c.Fit) (hn : c'.nodes = c.nodes) : c'.Fit := by
  intro i e he
  exact h i e (hn ▸ he)

theorem fit_set {o : Option NodeEntry} (h : c.Fit) (ho : ∀ e, o = some e → failuresFit e = true)
    (hn : c'.nodes = c.nodes.set i o) : c'.Fit := by
  intro j e he
  rw [hn, slot_set] at he
  split at he
  · exact ho e he
  · exact h j e he

theorem fit_setEntry (h : c.Fit) (he : failuresFit e = true) : (c.setEntry i e).Fit :=
  fit_set h (by rintro _ ⟨rfl⟩; exact he) rfl

/-- A change of an entry that leaves its state and its failures fits. -/
theorem fit_modEntry {f : NodeEntry → NodeEntry} (hf : ∀ e, failuresFit (f e) = failuresFit e) (h : c.Fit) :
    (c.modEntry i f).Fit := by
  unfold LineCtl.modEntry
  split
  · exact h
  · rename_i e he
    exact fit_setEntry h ((hf e).trans (h i e he))

theorem fit_good (r : NodeReport) (e : NodeEntry) : failuresFit (e.good r) = true := rfl

/-- R164: a failed poll counts, up to 3, and the state follows. -/
theorem fit_failed (f : Failure) (h : failuresFit e = true) : failuresFit (e.failed f) = true := by
  have hcases : e.state = .UNHEARD ∧ e.failures ≤ 2 ∨ e.state = .ONLINE ∧ e.failures = 0
      ∨ e.state = .SUSPECT ∧ 1 ≤ e.failures ∧ e.failures ≤ 2 ∨ e.state = .OFFLINE ∧ e.failures = 3 := by
    unfold failuresFit at h
    split at h <;> simp_all
  unfold failuresFit NodeEntry.failed
  obtain ⟨hst, hf⟩ | ⟨hst, hf⟩ | ⟨hst, h1, hf⟩ | ⟨hst, hf⟩ := hcases
  · obtain h0 | h0 | h0 : e.failures = 0 ∨ e.failures = 1 ∨ e.failures = 2 := by omega
    all_goals simp [hst, h0, failedState, satAdd]
  · simp [hst, hf, failedState, satAdd]
  · obtain h0 | h0 : e.failures = 1 ∨ e.failures = 2 := by omega
    all_goals simp [hst, h0, failedState, satAdd]
  · simp [hst, hf, failedState, satAdd]

theorem nodes_advance (n start : Nat) (c : LineCtl) : (LineCtl.advance n start c).nodes = c.nodes := by
  induction n generalizing start c with
  | zero => rfl
  | succ n ih =>
    unfold LineCtl.advance
    split
    · rfl
    · exact ih 0 c.completeRound

theorem nodes_endPoll (now : Nat) (i : Fin 32) (c : LineCtl) : (c.endPoll now i).nodes = c.nodes :=
  nodes_advance 9 _ c

/-- R167: UNHEARD with no failures fits. -/
theorem fit_unhear (c : LineCtl) : c.unhear.Fit := by
  intro i e he
  unfold LineCtl.unhear at he
  rw [slot_ofFn, Option.map_eq_some_iff] at he
  obtain ⟨x, -, rfl⟩ := he
  rfl

/-- R168. -/
theorem fit_commit (now : Nat) (c : LineCtl) : (c.commit now).Fit := by
  unfold LineCtl.commit
  dsimp only
  split <;> exact (fit_unhear (c.abandon now)).of_nodes rfl

theorem fit_reconfigure (now : Nat) (c : LineCtl) : (c.reconfigure now).Fit :=
  (fit_unhear (c.abandon now)).of_nodes rfl

/-- R160 to R162: a character received counts strays at most. -/
theorem fit_receive (ch : RxChar) (h : c.Fit) : (c.receive ch).Fit := by
  have hstray : ∀ n i, (c.modEntry i (NodeEntry.strays n)).Fit := fun n i => fit_modEntry (fun _ => rfl) h
  unfold LineCtl.receive
  repeat' split
  all_goals first | exact h.of_nodes rfl | exact hstray _ _

/-! ## What changes the lines alone -/

/-- A change of the lines, by which each list still fits. -/
theorem Tidy.of_lines (h : OnlyLinks s t) (hp : ∀ p, SameLink (s.port p) (t.port p))
    (hl : ∀ l, (s.line l).Fit → (t.line l).Fit) : Tidy s t := by
  obtain ⟨⟨hbase, hhelm, halloc, hr, hc, hphase⟩, ⟨-, htanks, hmove⟩, he⟩ := h
  have hphase : t.phase.phase = s.phase.phase := by rw [hphase]
  have hrun := running_of_phase hphase
  exact {
    engines := EnginesKept.law ⟨he.1, he.2.1⟩
    rudders := rudderLaw_of_same hr.1
    couplings := CouplingsKept.law ⟨hc.1, hc.2, halloc.1⟩ hrun
    fuel := FuelKept.law ⟨htanks, hmove.1, hmove.2.1⟩ hrun
    nodes := fun hs l => hl l (hs l)
    onward := onward_of_base hbase
    coasts := EnginesKept.coasts ⟨he.1, he.2.1⟩
    links := ⟨hhelm.1, hhelm.2, hphase, hp⟩ }

theorem Tidy.setLine (l : Line) (c : LineCtl) (s : State) (h : (s.line l).Fit → c.Fit) : Tidy s (s.setLine l c) := by
  refine .of_lines (by and_intros <;> rfl) (fun _ => .refl _) fun m hm => ?_
  rw [line_setLine]
  split
  · subst m
    exact h hm
  · exact hm

theorem Tidy.modLine (l : Line) (f : LineCtl → LineCtl) (s : State) (h : (s.line l).Fit → (f (s.line l)).Fit) :
    Tidy s (s.modLine l f) := .setLine l _ s h

/-- A change of a line that leaves its entries. -/
theorem Tidy.modLine_nodes (l : Line) (f : LineCtl → LineCtl) (s : State) (h : (f (s.line l)).nodes = (s.line l).nodes) :
    Tidy s (s.modLine l f) := .modLine l f s fun hs => hs.of_nodes h

theorem Tidy.takeHandover (c : Instr) (s : State) : Tidy s (s.takeHandover c) := by
  refine .of_lines (by and_intros <;> rfl) (fun _ => .refl _) fun m hm => ?_
  rw [line_takeHandover]
  exact hm.of_nodes rfl

/-! ## Polls (R159, R163 to R166) -/

theorem Tidy.transmit (l : Line) (s : State) : Tidy s (s.transmit l) := by
  unfold State.transmit
  dsimp only
  repeat' split
  all_goals first | exact .refl _ | exact .setLine _ _ _ fun h => h.of_nodes rfl

theorem Tidy.settleEntry (l : Line) (i : Fin 32) (old e : NodeEntry) (s : State)
    (h : (s.line l).Fit → failuresFit e = true) : Tidy s (s.settleEntry l i old e) := by
  unfold State.settleEntry
  dsimp only
  split
  · exact .setLine _ _ _ fun hs => fit_setEntry hs (h hs)
  · refine Tidy.trans (Tidy.trans ?_ (.post ..)) (.postIf ..)
    exact .setLine _ _ _ fun hs => (fit_setEntry (i := i) hs (h hs)).of_nodes rfl

theorem Tidy.pollGood (l : Line) (i : Fin 32) (e : NodeEntry) (r : NodeReport) (s : State) :
    Tidy s (s.pollGood l i e r) :=
  (Tidy.settleEntry l i e _ s fun _ => fit_good r e).trans (.modLine_nodes _ _ _ (nodes_endPoll ..))

theorem Tidy.attemptFailed (l : Line) (f : Failure) (s : State) : Tidy s (s.attemptFailed l f) := by
  unfold State.attemptFailed
  dsimp only
  split
  · split
    · exact .refl _
    · rename_i i _ _ _ e he
      exact (Tidy.settleEntry l i e _ s fun hs => fit_failed f (hs i e he)).trans (.modLine_nodes _ _ _ (nodes_endPoll ..))
  · exact .setLine _ _ _ fun h => h.of_nodes rfl

theorem Tidy.judge (l : Line) (i : Fin 32) (e : NodeEntry) (chars : List RxChar) (s : State) :
    Tidy s (s.judge l i e chars) := by
  unfold State.judge
  split
  · exact .pollGood ..
  · refine Tidy.trans ?_ (.attemptFailed ..)
    exact .modLine _ _ _ (fit_modEntry fun _ => rfl)

theorem Tidy.endReception (l : Line) (s : State) : Tidy s (s.endReception l) := by
  have hset : ∀ c : LineCtl, c.nodes = (s.line l).nodes → Tidy s (s.setLine l c) := fun c hc =>
    .setLine l c s fun h => h.of_nodes hc
  unfold State.endReception
  dsimp only
  split
  · exact .judge ..
  · exact .ite (fun _ => hset _ rfl) fun _ => .attemptFailed ..
  · exact hset _ rfl

theorem Tidy.closeWindow (l : Line) (s : State) : Tidy s (s.closeWindow l) := by
  unfold State.closeWindow
  dsimp only
  split
  · exact .setLine _ _ _ fun h => h.of_nodes rfl
  · exact .attemptFailed ..
  · refine Tidy.trans ?_ (.attemptFailed ..)
    exact .setLine _ _ _ fun h => h.of_nodes rfl
  · exact .refl _

/-- No law reads the time, at which a change was decided. -/
theorem Tidy.retimed {n m : Nat} (h : Tidy { s with now := n } t) (hon : Onward s { t with now := m }) :
    Tidy s { t with now := m } where
  engines := h.engines
  rudders := h.rudders
  couplings := h.couplings
  fuel := h.fuel
  nodes := h.nodes
  onward := hon
  coasts := h.coasts
  links := h.links

theorem Tidy.endFirst (l : Line) (s : State) : Tidy s (s.endFirst l) := by
  have hon : Onward s (s.endFirst l) := onward_of_base (endFirst_keeps l s).1.1
  unfold State.endFirst at hon ⊢
  split
  · exact .refl _
  · rename_i n hn
    rw [hn] at hon
    exact .retimed (.endReception l { s with now := n }) hon

/-! ## Characters (R155, R160 to R162) -/

theorem Tidy.charIn (l : Line) (at' : Nat) (ch : RxChar) (s : State) : Tidy s (s.charIn l at' ch) :=
  .modLine _ _ _ fun h => (fit_receive ch h).of_nodes rfl

theorem Tidy.charEnds (l : Line) (s : State) : Tidy s (s.charEnds l) := by
  unfold State.charEnds
  split
  · rename_i x risen _
    have hrx : Tidy s (s.modLine l fun c => { c with receiver := receiverAfter x risen }) := .modLine_nodes _ _ _ rfl
    dsimp only
    split
    · exact hrx
    · exact hrx.trans (.charIn ..)
  · exact .refl _

theorem Tidy.freeReceiver (l : Line) (s : State) : Tidy s (s.freeReceiver l) := by
  unfold State.freeReceiver
  split
  · exact .refl _
  · exact .ite (fun _ => .charEnds ..) fun _ => .refl _

theorem Tidy.edge (l : Line) (x : CharSamples) (s : State) : Tidy s (s.edge l x) := by
  unfold State.edge
  refine .ite (fun _ => .refl _) fun _ => (Tidy.freeReceiver l s).trans ?_
  exact .ite (fun _ => (Tidy.endFirst l _).trans (.modLine_nodes _ _ _ rfl)) fun _ => .refl _

theorem nodes_endTransmission (n : Nat) (c : LineCtl) : (c.endTransmission n).nodes = c.nodes := by
  unfold LineCtl.endTransmission
  split <;> rfl

/-! ## The requests of the lines (R156, R157, R167) -/

theorem Tidy.restartLine (l : Line) (s : State) : Tidy s (s.restartLine l) := by
  unfold State.restartLine
  dsimp only
  refine .ite (fun _ => .refl _) fun _ => Tidy.trans ?_ (.postIf ..)
  exact .setLine _ _ _ fun _ => (fit_unhear ((s.line l).abandon s.now)).of_nodes rfl

theorem Tidy.writeNode (l : Line) (i : Fin 32) (o : Option NodeEntry) (s : State)
    (h : ∀ e, o = some e → failuresFit e = true) : Tidy s (s.writeNode l i o) :=
  .modLine _ _ _ fun hs => fit_set hs h rfl

theorem fit_clearCounters (e : NodeEntry) : failuresFit e.clearCounters = failuresFit e := rfl

end Sys2Proof.Machine
end

section
/-! SUPPORT. The requests that leave the links: all but the helm requests, COMMIT_CONFIG and RECONFIGURE. Each answers at
once, and what it does is tidy. -/

namespace Sys2Proof.Machine

open Sys2Proof

variable {s t : State} {f : Act} {p : Port}

/-- An act that answers at once, by a tidy change. -/
def Act.Tidies (f : Act) (s : State) : Prop := ∃ t r body, f s = (t, .answered r body) ∧ Tidy s t

/-! ## The shapes of the acts (R174) -/

theorem tidies_answered (r : Result) (body : List Byte) (hf : f s = (t, .answered r body)) (h : Tidy s t) : f.Tidies s :=
  ⟨t, r, body, hf, h⟩

theorem tidies_answer (r : Result) (s : State) : (answer r).Tidies s := tidies_answered r [] rfl (.refl s)

theorem tidies_doneWith {g : State → State} (h : Tidy s (g s)) : (doneWith g).Tidies s := tidies_answered _ _ rfl h

theorem tidies_readWith (body : State → List Byte) (s : State) : (readWith body).Tidies s :=
  tidies_answered _ _ rfl (.refl s)

theorem tidies_orElse {α : Type} {x : Option α} {r : Result} {g : α → Act} (h : ∀ a, x = some a → (g a).Tidies s) :
    (orElse x r g).Tidies s := by
  cases x with
  | none => exact tidies_answer r s
  | some a => exact h a rfl

theorem tidies_require {b : Bool} {r : Result} (h : f.Tidies s) : (require b r f).Tidies s := by
  cases b
  · exact tidies_answer r s
  · exact h

/-- One of two acts, as a condition on the state decides. -/
theorem tidies_ite {c : State → Prop} [∀ s, Decidable (c s)] {f g : Act} (hf : c s → f.Tidies s) (hg : ¬c s → g.Tidies s) :
    Act.Tidies (fun s => if c s then f s else g s) s := by
  by_cases h : c s
  · obtain ⟨t, r, body, heq, ht⟩ := hf h
    exact ⟨t, r, body, (if_pos h).trans heq, ht⟩
  · obtain ⟨t, r, body, heq, ht⟩ := hg h
    exact ⟨t, r, body, (if_neg h).trans heq, ht⟩

theorem tidies_inRunning (h : s.running = true → f.Tidies s) : (inRunning f).Tidies s :=
  tidies_ite h fun _ => tidies_answer _ s

theorem tidies_inConfiguring (h : s.running = false → f.Tidies s) : (inConfiguring f).Tidies s :=
  tidies_ite (fun _ => tidies_answer _ s) fun hrun => h (by simpa using hrun)

theorem tidies_fuelPortOnly (h : f.Tidies s) : (fuelPortOnly p f).Tidies s := by
  cases p
  · exact tidies_answer _ s
  · exact tidies_answer _ s
  · exact h

theorem tidies_bridgeInRunning {g : Bridge → Act} (h : ∀ b, s.running = true → (g b).Tidies s) :
    (bridgeInRunning p g).Tidies s := by
  unfold bridgeInRunning Act.Tidies
  cases bridgeOf p with
  | none => exact tidies_answer _ s
  | some b => exact tidies_inRunning (h b)

theorem tidies_holderOnly (h : s.running = true → f.Tidies s) : (holderOnly p f).Tidies s :=
  tidies_bridgeInRunning fun _ hrun => tidies_ite (fun _ => h hrun) fun _ => tidies_answer _ s

/-! ## Engines and rudders -/

theorem tidies_holderEngine {slot : Byte} {g : Fin 8 → Act} (h : ∀ i, (g i).Tidies s) :
    (holderEngine p slot g).Tidies s :=
  tidies_holderOnly fun _ => tidies_orElse fun i _ => tidies_ite (fun _ => h i) fun _ => tidies_answer _ s

theorem tidies_reinstate (slot : Byte) : (decideReinstate p slot).Tidies s := by
  refine tidies_holderEngine fun i => ?_
  refine tidies_ite (fun _ => tidies_doneWith (.updateEngine _ _ _ rfl rfl rfl rfl)) fun _ => ?_
  exact tidies_ite (fun _ => tidies_doneWith (.updateEngine _ _ _ rfl rfl rfl rfl)) fun _ => tidies_answer _ s

theorem tidies_clearTrip (station : Byte) (lines : PerStation Bool) : (decideClearTrip p station lines).Tidies s := by
  refine tidies_holderOnly fun _ => tidies_orElse fun st _ => ?_
  refine tidies_ite (c := fun _ => lines.get st) (fun _ => ?_) fun _ => ?_
  · exact tidies_answered _ _ rfl (.seeTrip st true s)
  · exact tidies_answered _ _ rfl ((Tidy.seeTrip st false s).trans (.clearTrip st _))

theorem tidies_clearRudderFault (slot : Byte) : (decideClearRudderFault p slot).Tidies s := by
  refine tidies_holderOnly fun _ => tidies_orElse fun i _ => ?_
  refine tidies_ite (fun _ => tidies_answer _ s) fun _ => tidies_ite (fun _ => tidies_answer _ s) fun _ => ?_
  exact tidies_ite (fun _ => tidies_doneWith (.rudderJam i false s)) fun _ => tidies_answer _ s

/-! ## Couplings -/

theorem tidies_holderCoupling {index : Byte} {g : Fin 24 → Act}
    (h : ∀ i, s.running = true → s.couplings[i].used = true → (g i).Tidies s) : (holderCoupling p index g).Tidies s :=
  tidies_holderOnly fun hrun => tidies_orElse fun i _ => tidies_ite (h i hrun) fun _ => tidies_answer _ s

/-- R85: a used entry enters a state on a request, in RUNNING. -/
theorem tidies_enterOnRequest {i : Fin 24} {st : CouplingState} (hrun : s.running = true)
    (hused : s.couplings[i].used = true) (hst : st ≠ .UNUSED) : (enterOnRequest i st).Tidies s :=
  tidies_doneWith (.enterCoupling _ _ _ _ (fun _ => hused) hst fun _ h => absurd hrun (by simp [h]))

theorem tidies_makeUp (index : Byte) : (decideMakeUp p index).Tidies s := by
  refine tidies_holderCoupling fun i hrun hused => ?_
  change (makeUpIn i s.couplings[i].state).Tidies s
  unfold makeUpIn
  split
  · exact tidies_enterOnRequest hrun hused (by decide)
  · exact tidies_enterOnRequest hrun hused (by decide)
  · exact tidies_enterOnRequest hrun hused (by decide)
  · exact tidies_answer _ s
  · exact tidies_answer _ s

theorem tidies_releaseCoupling (index : Byte) : (decideReleaseCoupling p index).Tidies s := by
  refine tidies_holderCoupling fun i hrun hused => ?_
  refine tidies_ite (fun _ => tidies_answer _ s) fun _ => tidies_ite (fun _ => tidies_answer _ s) fun _ => ?_
  exact tidies_ite (fun _ => tidies_answer _ s) fun _ => tidies_enterOnRequest hrun hused (by decide)

theorem tidies_resetCoupling (index : Byte) : (decideResetCoupling p index).Tidies s :=
  tidies_holderCoupling fun _ hrun hused =>
    tidies_ite (fun _ => tidies_enterOnRequest hrun hused (by decide)) fun _ => tidies_answer _ s

theorem tidies_setTension (index : Byte) (target band : Half) : (decideSetTension p index target band).Tidies s :=
  tidies_holderCoupling fun _ _ _ => tidies_answered _ _ rfl (.setCoupling _ _ _ rfl rfl rfl rfl fun _ => .inl)

theorem tidies_readPeak (index : Byte) : (decideReadPeak index).Tidies s :=
  tidies_orElse fun _ _ => tidies_answered _ _ rfl (.setCoupling _ _ _ rfl rfl rfl rfl fun _ => .inl)

/-! ## Parameters (R183) -/

/-- The parameters change, the release threshold only in CONFIGURING, where no coupling is let go (R102). -/
theorem Tidy.putParam (x : Parameter) (v : Nat) (s : State)
    (h : s.running = false ∨ (s.params.put x v).releaseThreshold = s.params.releaseThreshold) :
    Tidy s (Machine.putParam x v s) := by
  have hports : ∀ q, SameLink (s.port q) ((Machine.putParam x v s).port q) := fun _ => .refl _
  have hceil : CouplingLaw s ∧ CeilingLaw s → CeilingLaw (Machine.putParam x v s) := by
    intro ⟨hs, hc⟩ i hused hkind hst
    obtain hrun | hsame := h
    · have hno := (hs i).2.2.2 hrun
      obtain hst | hst : s.couplings[i].state = .RELEASING ∨ s.couplings[i].state = .RELEASED := hst
      · rw [hst] at hno
        cases hno
      · rw [hst] at hno
        cases hno
    · exact (hc i hused hkind hst).trans_eq hsame.symm
  exact {
    engines := id, rudders := id, fuel := id, nodes := id, onward := ⟨rfl, le_rfl⟩
    couplings := fun hs => ⟨hs.1, hceil hs⟩
    coasts := fun _ => .refl _
    links := ⟨rfl, rfl, rfl, hports⟩ }

/-- R183: the release threshold is not live. -/
theorem put_live {x : Parameter} (h : x.live = true) (v : Nat) (q : Params) :
    (q.put x v).releaseThreshold = q.releaseThreshold := by
  cases x <;> first | rfl | cases h

theorem tidies_writeParamLive {x : Parameter} {v : Nat} : (writeParamLive p x v).Tidies s := by
  refine tidies_ite (c := fun _ => _) (fun _ => tidies_answer _ s) fun hlive => ?_
  have hlive : x.live = true := by simpa using hlive
  cases bridgeOf p with
  | none => exact tidies_answer _ s
  | some b =>
    refine tidies_ite (fun _ => ?_) fun _ => tidies_answer _ s
    exact tidies_answered _ _ rfl (.putParam _ _ _ (.inr (put_live hlive _ _)))

theorem tidies_writeParameters (parameter : Byte) (value : Half) : (decideWriteParameters p parameter value).Tidies s := by
  refine tidies_orElse fun x _ => tidies_ite (fun _ => tidies_writeParamLive) fun hrun => ?_
  refine tidies_ite (c := fun _ => _) (fun _ => ?_) fun _ => tidies_answer _ s
  exact tidies_doneWith (.putParam _ _ _ (.inl (by simpa using hrun)))

/-! ## Meters, tanks and movements -/

theorem tidies_readMeter (index clear : Byte) : (decideReadMeter p index clear).Tidies s := by
  refine tidies_require (tidies_orElse fun i _ => tidies_orElse fun b _ => tidies_answered _ _ rfl ?_)
  exact .ite (fun _ => .setMeter ..) fun _ => .refl s

theorem tidies_setMeter (index : Byte) (alpha limit : Half) : (decideSetMeter p index alpha limit).Tidies s := by
  refine tidies_fuelPortOnly (tidies_inRunning fun _ => tidies_orElse fun i _ => ?_)
  unfold writeLive Act.Tidies
  dsimp only
  split
  · exact tidies_answered (f := fun _ => (_, _)) _ _ rfl (.setMeter ..)
  · exact tidies_answer _ s

theorem tidies_rebaseTank (index : Byte) (value : OptParam 32) : (decideRebaseTank p index value).Tidies s := by
  refine tidies_fuelPortOnly (tidies_orElse fun i _ => ?_)
  unfold rebaseWith Act.Tidies
  dsimp only
  repeat' split
  all_goals first | exact tidies_answer _ s | exact tidies_doneWith (.rebaseTank ..)

theorem tidies_setFeed (engine tank : Byte) : (decideSetFeed p engine tank).Tidies s := by
  refine tidies_fuelPortOnly (tidies_inRunning fun _ => tidies_orElse fun e _ => tidies_orElse fun x _ => ?_)
  refine tidies_ite (fun _ => tidies_answer _ s) fun _ => tidies_ite (fun _ => tidies_answer _ s) fun _ => ?_
  exact tidies_ite (fun _ => tidies_answer _ s) fun _ => tidies_doneWith (.moveFeed e x s)

theorem tidies_setTank (index source : Byte) (limit : Half) : (decideSetTank p index source limit).Tidies s := by
  refine tidies_fuelPortOnly (tidies_inRunning fun _ => tidies_orElse fun i _ => ?_)
  unfold tankLive Act.Tidies
  dsimp only
  repeat' split
  all_goals first | exact tidies_answer _ s | exact ⟨_, _, _, rfl, .writeTankLive ..⟩

theorem tidies_startMovement (channel : Byte) (r : MovementParams) : (decideStartMovement p channel r).Tidies s := by
  refine tidies_fuelPortOnly (tidies_inRunning fun hrun => tidies_orElse fun c _ => tidies_orElse fun dst _ =>
    tidies_orElse fun m _ => tidies_require ?_)
  unfold startChecks Act.Tidies
  dsimp only
  split
  · exact tidies_answer _ s
  split
  · exact tidies_answer _ s
  split
  · exact tidies_answer _ s
  split
  · exact tidies_answer _ s
  split
  · exact tidies_answer _ s
  split
  · exact tidies_answer _ s
  split
  · exact tidies_answer _ s
  · rename_i hclaims hfull hlow hroom _
    exact ⟨_, _, _, rfl, .acceptStart _ _ _ hrun (by simpa using hclaims) hfull (by simpa using hlow) (by simpa using hroom)⟩

theorem tidies_stopMovement (channel : Byte) : (decideStopMovement channel).Tidies s := by
  refine tidies_orElse fun c _ => tidies_inRunning fun _ => ?_
  unfold stopEntry Act.Tidies
  dsimp only
  split
  · exact tidies_doneWith (.stopChannel ..)
  · exact tidies_answer _ s
  · exact tidies_answer _ s

theorem tidies_retireMovement : (decideRetireMovement p).Tidies s := by
  refine tidies_fuelPortOnly ?_
  unfold retireOldest Act.Tidies
  dsimp only
  split
  · exact tidies_answer _ s
  · rename_i h
    exact ⟨_, _, _, rfl, .dropRecord _ _ _ h⟩

theorem tidies_readMovementRecord (index : Byte) : (decideReadMovementRecord index).Tidies s := by
  unfold decideReadMovementRecord Act.Tidies
  dsimp only
  split
  · exact tidies_answer _ s
  · exact ⟨_, _, _, rfl, .refl s⟩

/-! ## Lines -/

/-- R156: what is written is UNHEARD with no failures. -/
theorem fit_written {marker : Byte} {c : NodeParams} {o : Option NodeEntry} (h : marked marker (nodeOfParams c) = some o)
    (e : NodeEntry) (he : o = some e) : failuresFit e = true := by
  subst he
  unfold marked at h
  split at h
  · cases h
  · rw [Option.map_eq_some_iff] at h
    obtain ⟨x, hx, heq⟩ := h
    obtain rfl : x = e := Option.some.inj heq
    unfold nodeOfParams at hx
    split at hx
    · split at hx
      · cases hx
        rfl
      · cases hx
    · cases hx
  · cases h

theorem tidies_writeNode (line position marker : Byte) (c : NodeParams) :
    (decideWriteNode line position marker c).Tidies s :=
  tidies_inConfiguring fun _ => tidies_orElse fun _ _ => tidies_orElse fun _ _ => tidies_orElse fun _ he =>
    tidies_doneWith (.writeNode _ _ _ _ (fit_written he))

theorem tidies_readNode (line position clear : Byte) : (decideReadNode line position clear).Tidies s := by
  refine tidies_orElse fun l _ => tidies_orElse fun i _ => tidies_orElse fun b _ => ⟨_, _, _, rfl, ?_⟩
  exact .ite (fun _ => .modLine _ _ _ (fit_modEntry fit_clearCounters)) fun _ => .refl s

theorem tidies_readLine (line clear : Byte) : (decideReadLine line clear).Tidies s := by
  refine tidies_orElse fun l _ => tidies_orElse fun b _ => ⟨_, _, _, rfl, ?_⟩
  exact .ite (fun _ => .modLine_nodes _ _ _ rfl) fun _ => .refl s

/-! ## Ports -/

/-- A change of a port that keeps its request in flight and its replies. -/
theorem Tidy.modPort (q : Port) (g : PortRec → PortRec) (s : State) (h : ∀ r, SameLink r (g r)) : Tidy s (s.modPort q g) := by
  refine .of_kept ⟨rfl, le_rfl⟩ ⟨rfl, rfl⟩ rfl ⟨rfl, rfl, rfl⟩ ⟨rfl, rfl, rfl⟩ (fun _ => rfl) ⟨rfl, rfl, rfl, fun x => ?_⟩
  rw [port_modPort]
  split
  · subst x
    exact h _
  · exact .refl _

theorem tidies_clearEvents (set : BitVec 24) : (decideClearEvents p set).Tidies s :=
  tidies_orElse fun _ _ => tidies_answered _ _ rfl (.modPort _ _ _ fun _ => ⟨rfl, rfl, rfl⟩)

theorem tidies_setEventMask (set : BitVec 24) : (decideSetEventMask p set).Tidies s :=
  tidies_orElse fun _ _ => tidies_answered _ _ rfl (.modPort _ _ _ fun _ => ⟨rfl, rfl, rfl⟩)

theorem tidies_readPortStatus (port clear : Byte) : (decideReadPortStatus p port clear).Tidies s := by
  refine tidies_orElse fun q _ => tidies_require (tidies_orElse fun b _ => ⟨_, _, _, rfl, ?_⟩)
  exact .ite (fun _ => .modPort _ _ _ fun _ => ⟨rfl, rfl, rfl⟩) fun _ => .refl s

/-! ## All of them -/

/-- The requests that change a link: the helm requests, and the two that change the phase. -/
def linkRequest : Instr → Bool
  | .commitConfig .. => true
  | .reconfigure .. => true
  | c => helmRequest c

/-- Every other request answers at once, and is tidy. -/
theorem tidies_of_request {c : Instr} {r : Request} (hc : requestParts c = some r) (hlink : linkRequest c = false) (s : State) :
    r.act.Tidies s := by
  cases c <;> cases hc
  case readEngine => exact tidies_orElse fun _ _ => tidies_readWith _ s
  case writeEngine =>
    exact tidies_inConfiguring fun _ => tidies_orElse fun _ _ => tidies_orElse fun _ _ => tidies_doneWith (.writeEngine ..)
  case setStandby => exact tidies_holderEngine fun _ => tidies_doneWith (.updateEngine _ _ _ rfl rfl rfl rfl)
  case reinstate => exact tidies_reinstate _
  case clearTrip => exact tidies_clearTrip _ _
  case readRudder => exact tidies_orElse fun _ _ => tidies_readWith _ s
  case writeRudder =>
    exact tidies_inConfiguring fun _ => tidies_orElse fun _ _ => tidies_orElse fun _ _ => tidies_doneWith (.writeRudder ..)
  case clearRudderFault => exact tidies_clearRudderFault _
  case readCoupling => exact tidies_orElse fun _ _ => tidies_readWith _ s
  case writeCoupling =>
    exact tidies_inConfiguring fun _ => tidies_orElse fun _ _ => tidies_orElse fun _ _ => tidies_doneWith (.writeCoupling ..)
  case makeUp => exact tidies_makeUp _
  case releaseCoupling => exact tidies_releaseCoupling _
  case resetCoupling => exact tidies_resetCoupling _
  case setTension => exact tidies_setTension _ _ _
  case readPeak => exact tidies_readPeak _
  case readMeter => exact tidies_readMeter _ _
  case writeMeter =>
    exact tidies_inConfiguring fun _ => tidies_orElse fun _ _ => tidies_orElse fun _ _ => tidies_doneWith (.setMeter ..)
  case setMeter => exact tidies_setMeter _ _ _
  case readTank => exact tidies_orElse fun _ _ => tidies_readWith _ s
  case writeTank =>
    exact tidies_inConfiguring fun _ => tidies_orElse fun _ _ => tidies_orElse fun _ _ =>
      tidies_doneWith (.setTank _ _ _ (written_keeps _ _))
  case rebaseTank => exact tidies_rebaseTank _ _
  case setFeed => exact tidies_setFeed _ _
  case setTank => exact tidies_setTank _ _ _
  case startMovement => exact tidies_startMovement _ _
  case stopMovement => exact tidies_stopMovement _
  case retireMovement => exact tidies_retireMovement
  case readMovementChannel => exact tidies_orElse fun _ _ => tidies_readWith _ s
  case readMovementRecord => exact tidies_readMovementRecord _
  case writeNode => exact tidies_writeNode _ _ _ _
  case readNode => exact tidies_readNode _ _ _
  case readLine => exact tidies_readLine _ _
  case restartLine =>
    exact tidies_orElse fun _ _ => tidies_inRunning fun _ => tidies_doneWith (.restartLine ..)
  case clearEvents => exact tidies_clearEvents _
  case setEventMask => exact tidies_setEventMask _
  case readPortStatus => exact tidies_readPortStatus _ _
  case writeParameters => exact tidies_writeParameters _ _
  case readHelm => exact tidies_readWith _ s
  case readAllocation => exact tidies_readWith _ s
  case readParameters => exact tidies_readWith _ s
  case readSteering => exact tidies_readWith _ s
  case readCeilings => exact tidies_readWith _ s
  case readEvents => exact tidies_readWith _ s
  case readPhase => exact tidies_readWith _ s
  all_goals cases hlink

end Sys2Proof.Machine
end

section
/-! SUPPORT. The expiries, the reports and the hand-overs: each is tidy. -/

namespace Sys2Proof.Machine

open Sys2Proof

variable {s t : State}

/-! ## The shapes of the events -/

/-- A command answers a next state that the relation reaches. -/
def Reaches (R : State → State → Prop) (o : Out) (s : State) : Prop := ∃ t, o = .next t ∧ R s t

theorem reaches_live {R : State → State → Prop} {f : State → State} (hrefl : R s s) (h : s.inReset = false → R s (f s)) :
    Reaches R (live s f) s := by
  cases hreset : s.inReset with
  | true => exact ⟨s, by simp [live, hreset], hrefl⟩
  | false => exact ⟨f s, by simp [live, hreset], h hreset⟩

theorem tidy_live {f : State → State} (h : Tidy s (f s)) : Reaches Tidy (live s f) s := reaches_live (.refl s) fun _ => h

/-- The clock reaches a deadline. -/
theorem Tidy.reach (n : Nat) (s : State) : Tidy s (s.reach n) :=
  .of_kept ⟨rfl, le_max_left _ _⟩ ⟨rfl, rfl⟩ rfl ⟨rfl, rfl, rfl⟩ ⟨rfl, rfl, rfl⟩ (fun _ => rfl) ⟨rfl, rfl, rfl, fun _ => .refl _⟩

theorem Tidy.onExpiry {d : Option Nat} {f : Nat → State → State} (h : ∀ n, d = some n → Tidy (s.reach n) (f n (s.reach n))) :
    Tidy s (onExpiry d f s) := by
  cases d with
  | none => exact .refl s
  | some n => exact (Tidy.reach n s).trans (h n rfl)

theorem tidy_expiry {d : State → Option Nat} {f : Nat → State → State}
    (h : ∀ n, d s = some n → Tidy (s.reach n) (f n (s.reach n))) :
    Reaches Tidy (live s fun s => Machine.onExpiry (d s) f s) s := tidy_live (.onExpiry h)

theorem tidy_taken {c : Instr} {f : State → State}
    (h : ∀ t, t.running = true → Tidy t (f t)) : Reaches Tidy (taken c f s) s :=
  tidy_live (.ite (fun hrun => (Tidy.takeHandover c s).trans (h _ hrun)) fun _ => .refl s)

/-! ## The events -/

/-- The allocation record, the results of a pass and the timers are read by no law. -/
theorem Tidy.of_alloc (alloc : Allocation) (timer : Option Nat) (shares : Option (Vector Int 8)) (r : Option RudderResult)
    (s : State) : Tidy s { s with alloc := alloc, passTimer := timer, engineResult := shares, rudderResult := r } :=
  .of_kept ⟨rfl, le_rfl⟩ ⟨rfl, rfl⟩ rfl ⟨rfl, rfl, rfl⟩ ⟨rfl, rfl, rfl⟩ (fun _ => rfl) ⟨rfl, rfl, rfl, fun _ => .refl _⟩

theorem Tidy.runPass (timer : Option Nat) (s : State) : Tidy s (Machine.runPass { s with passTimer := timer }) := by
  refine Tidy.trans ?_ (.postIf ..)
  exact .of_alloc _ _ _ _ s

theorem Tidy.tripAsserted (st : Station) (s : State) : Tidy s (Machine.tripAsserted st s) :=
  .ite (fun _ => (Tidy.seeTrip st true s).trans (.tripStation st _)) fun _ => .seeTrip st true s

theorem Tidy.secondStep (n : Nat) (s : State) : Tidy s (Machine.secondStep n s) :=
  .of_kept ⟨rfl, le_rfl⟩ ⟨rfl, rfl⟩ rfl ⟨rfl, rfl, rfl⟩ ⟨rfl, rfl, rfl⟩ (fun _ => rfl) ⟨rfl, rfl, rfl, fun _ => .refl _⟩

/-- R92, R94, R97: the deadline of the state expires, and the entry enters a state that is not UNUSED. -/
theorem tidy_stateExpiry {k : StateDeadlineKind} {i : Fin 24} {g : Coupling → CouplingState} (hg : ∀ c, g c ≠ .UNUSED) :
    Reaches Tidy (live s (stateExpiry k i g)) s := by
  refine tidy_live (.onExpiry fun n hn => ?_)
  refine .stateExpiry k i _ _ ⟨n, ?_⟩ (hg _)
  exact (deadlineOf_eq_some ..).mp hn

/-- The commands that no port and no helm request takes part in, but for a pass result taken by the engines. -/
def ownEvent : Instr → Bool
  | .passTimerExpiry => true
  | .passResultTakenRudders => true
  | .tripLineAsserted .. => true
  | .dwellDeadlineExpiry .. => true
  | .gearConfirmExpiry .. => true
  | .trackingDeadlineExpiry .. => true
  | .engineReportTaken .. => true
  | .engineNodeStateTaken .. => true
  | .rudderReportTaken .. => true
  | .rudderNodeStateTaken .. => true
  | .jamDeadlineExpiry .. => true
  | .winchReportTaken .. => true
  | .winchNodeStateTaken .. => true
  | .freshnessDeadlineExpiry .. => true
  | .heaveDeadlineExpiry .. => true
  | .releaseDeadlineExpiry .. => true
  | .slackDwellExpiry .. => true
  | .meterReportTaken .. => true
  | .meterNodeStateTaken .. => true
  | .estimationTimerExpiry => true
  | .tankReportTaken .. => true
  | .tankNodeStateTaken .. => true
  | .discrepancyDeadlineExpiry .. => true
  | .movementNodeStateTaken .. => true
  | .pumpReportTaken .. => true
  | .settlingDeadlineExpiry .. => true
  | .pollTransmit .. => true
  | .quietWaitTimeout .. => true
  | .replyWindowClose .. => true
  | .replyEnd .. => true
  | .fieldCharacterReceived .. => true
  | .frameGapTimeout .. => true
  | .secondsTimerExpiry => true
  | .pollTransmissionEnd .. => true
  | _ => false

theorem tidy_of_ownEvent {c : Instr} (hc : ownEvent c = true) (s : State) : Reaches Tidy (exec c s) s := by
  cases c
  case passTimerExpiry =>
    rw [exec, execPassTimerExpiry]
    exact tidy_expiry fun _ _ => .runPass _ _
  case passResultTakenRudders =>
    rw [exec, execPassResultTakenRudders]
    refine tidy_live ?_
    split
    · exact .refl s
    · exact (Tidy.of_alloc _ _ _ _ s).trans (.applyRudders _ _)
  case tripLineAsserted st =>
    rw [exec, execTripLineAsserted]
    exact tidy_live (.tripAsserted st s)
  case dwellDeadlineExpiry =>
    rw [exec, execDwellDeadlineExpiry]
    exact tidy_expiry fun _ _ => .setEngine _ _ _ ⟨_, _, _, _, rfl⟩
  case gearConfirmExpiry =>
    rw [exec, execGearConfirmExpiry]
    exact tidy_expiry fun _ _ => .updateEngine _ _ _ rfl rfl rfl rfl
  case trackingDeadlineExpiry =>
    rw [exec, execTrackingDeadlineExpiry]
    exact tidy_expiry fun _ _ => .updateEngine _ _ _ rfl rfl rfl rfl
  case engineReportTaken =>
    rw [exec, execEngineReportTaken]
    exact tidy_taken fun t _ => .ite (fun _ => .engineReport ..) fun _ => .refl t
  case engineNodeStateTaken =>
    rw [exec, execEngineNodeStateTaken]
    exact tidy_taken fun t _ => .ite (fun _ => .updateEngine _ _ _ rfl rfl rfl rfl) fun _ => .refl t
  case rudderReportTaken =>
    rw [exec, execRudderReportTaken]
    exact tidy_taken fun t _ => .ite (fun _ => .rudderReport ..) fun _ => .refl t
  case rudderNodeStateTaken =>
    rw [exec, execRudderNodeStateTaken]
    exact tidy_taken fun t _ => .ite (fun _ => .rudderNode ..) fun _ => .refl t
  case jamDeadlineExpiry =>
    rw [exec, execJamDeadlineExpiry]
    exact tidy_expiry fun _ _ => .rudderJam ..
  case winchReportTaken =>
    rw [exec, execWinchReportTaken]
    exact tidy_taken fun t hrun => .ite (fun hused => .winchReport _ _ _ hused hrun) fun _ => .refl t
  case winchNodeStateTaken =>
    rw [exec, execWinchNodeStateTaken]
    exact tidy_taken fun t _ => .ite (fun _ => .winchNode ..) fun _ => .refl t
  case freshnessDeadlineExpiry =>
    rw [exec, execFreshnessDeadlineExpiry]
    exact tidy_expiry fun _ _ => .freshness ..
  case heaveDeadlineExpiry =>
    rw [exec, execHeaveDeadlineExpiry]
    exact tidy_stateExpiry fun _ => by decide
  case releaseDeadlineExpiry =>
    rw [exec, execReleaseDeadlineExpiry]
    exact tidy_stateExpiry fun _ => by decide
  case slackDwellExpiry =>
    rw [exec, execSlackDwellExpiry]
    exact tidy_stateExpiry fun c => by cases c.cfg.autoTend <;> decide
  case meterReportTaken =>
    rw [exec, execMeterReportTaken]
    exact tidy_taken fun t _ => .ite (fun _ => .meterReport ..) fun _ => .refl t
  case meterNodeStateTaken =>
    rw [exec, execMeterNodeStateTaken]
    exact tidy_taken fun t _ => .ite (fun _ => .meterNode ..) fun _ => .refl t
  case estimationTimerExpiry =>
    rw [exec, execEstimationTimerExpiry]
    exact tidy_expiry fun n _ => (Tidy.of_meters _ _ _ _).trans (.estimateAll _)
  case tankReportTaken =>
    rw [exec, execTankReportTaken]
    exact tidy_taken fun t _ => .ite (fun _ => .tankReport ..) fun _ => .refl t
  case tankNodeStateTaken =>
    rw [exec, execTankNodeStateTaken]
    exact tidy_taken fun t _ => .ite (fun _ => .tankNode ..) fun _ => .refl t
  case discrepancyDeadlineExpiry =>
    rw [exec, execDiscrepancyDeadlineExpiry]
    refine tidy_expiry fun _ _ => Tidy.trans ?_ (.post ..)
    exact .setTank _ _ _ ⟨id, .inl rfl⟩
  case movementNodeStateTaken =>
    rw [exec, execMovementNodeStateTaken]
    exact tidy_taken fun _ _ => .movementNode ..
  case pumpReportTaken =>
    rw [exec, execPumpReportTaken]
    exact tidy_taken fun _ _ => .pumpReport ..
  case settlingDeadlineExpiry =>
    rw [exec, execSettlingDeadlineExpiry]
    exact tidy_expiry fun _ _ => .closeChannel ..
  case pollTransmit =>
    rw [exec, execPollTransmit]
    exact tidy_expiry fun _ _ => .transmit ..
  case quietWaitTimeout =>
    rw [exec, execQuietWaitTimeout]
    exact tidy_expiry fun _ _ => .transmit ..
  case replyWindowClose =>
    rw [exec, execReplyWindowClose]
    exact tidy_expiry fun _ _ => .closeWindow ..
  case replyEnd =>
    rw [exec, execReplyEnd]
    exact tidy_expiry fun _ _ => .endReception ..
  case fieldCharacterReceived l event =>
    rw [exec, execFieldCharacterReceived]
    refine tidy_live ?_
    cases event with
    | edge x => exact .edge ..
    | ends => exact .onExpiry fun _ _ => .charEnds ..
    | high => exact .modLine_nodes _ _ _ rfl
  case frameGapTimeout =>
    rw [exec, execFrameGapTimeout]
    exact tidy_expiry fun _ _ => .modPort _ _ _ fun _ => ⟨rfl, rfl, rfl⟩
  case secondsTimerExpiry =>
    rw [exec, execSecondsTimerExpiry]
    exact tidy_expiry fun _ _ => .secondStep ..
  case pollTransmissionEnd =>
    rw [exec, execPollTransmissionEnd]
    exact tidy_expiry fun _ _ => .modLine_nodes _ _ _ (nodes_endTransmission ..)
  all_goals cases hc

end Sys2Proof.Machine
end

section
/-! SUPPORT. Commit, reconfigure and full reset keep the laws of the blocks. -/

namespace Sys2Proof.Machine

open Sys2Proof

variable {s t : State}

/-! ## Full reset (R187) -/

section
variable {straps : Straps} {lv : LineLevels} {now choices : Nat} {pending : List Instr}

/-- The tables that full reset gives, as far as the laws read them. -/
abbrev PorBlocks (t : State) : Prop :=
  t.running = false ∧ t.engines = Vector.replicate 8 Engine.por ∧ t.rudders = Vector.replicate 8 Rudder.por
    ∧ t.couplings = Vector.replicate 24 Coupling.por ∧ t.tanks = Vector.replicate 8 Tank.por
    ∧ t.channels = Vector.replicate 2 Channel.por ∧ t.records = [] ∧ ∀ l, t.line l = LineCtl.por

@[simp] theorem slot_replicate {α : Type} {n : Nat} (x : α) (i : Fin n) : (Vector.replicate n x)[i] = x := by simp

theorem rudder_por_lawful : Rudder.por.Lawful := Rudder.fresh_lawful ..

theorem account_por_lawful : Account.por.Lawful := fun _ => rfl

theorem PorBlocks.engines (h : PorBlocks t) : EngineLaw t := by
  obtain ⟨-, he, -⟩ := h
  intro i
  rw [he, slot_replicate]
  exact fresh_lawful ..

theorem PorBlocks.rudders (h : PorBlocks t) : RudderLaw t := by
  obtain ⟨-, -, hr, -⟩ := h
  intro i
  rw [hr, slot_replicate]
  exact rudder_por_lawful

theorem PorBlocks.couplings (h : PorBlocks t) : CouplingLaw t ∧ CeilingLaw t := by
  obtain ⟨-, -, -, hc, -⟩ := h
  refine ⟨fun i => ?_, fun i hused => ?_⟩
  · rw [hc, slot_replicate]
    exact Coupling.fresh_lawful ..
  · rw [hc, slot_replicate] at hused
    cases hused

/-- R153: channels that are closed share no claim, and none of them runs. -/
theorem movement_closed (hclosed : ∀ k : Fin 2, t.channels[k].isOpen = false) (hrec : t.records.length ≤ 16) :
    MovementLaw t ∧ FlowLaw t := by
  have htank : ∀ (k : Fin 2) x, t.channels[k].claimsTank x = false := fun k x => by
    rw [Channel.claimsTank, hclosed, Bool.false_and]
  have hmeter : ∀ (k : Fin 2) x, t.channels[k].claimsMeter x = false := fun k x => by
    rw [Channel.claimsMeter, hclosed, Bool.false_and]
  have hpump : ∀ (k : Fin 2) x, t.channels[k].claimsPump x = false := fun k x => by
    rw [Channel.claimsPump, hclosed, Bool.false_and]
  refine ⟨⟨?_, fun x hx => ?_, fun x hx => ?_, fun x hx => ?_, fun _ => ⟨hclosed 0, hclosed 1⟩⟩, fun k hrun => ?_⟩
  · rw [openChannels_eq, hclosed, hclosed]
    exact hrec
  · exact absurd hx.1 (by simpa using htank 0 x)
  · exact absurd hx.1 (by simpa using hmeter 0 x)
  · exact absurd hx.1 (by simpa using hpump 0 x)
  · exact absurd (isOpen_of_running hrun) (by simpa using hclosed k)

theorem PorBlocks.fuel (h : PorBlocks t) : AccountLaw t ∧ MovementLaw t ∧ FlowLaw t := by
  obtain ⟨-, -, -, -, htanks, hchannels, hrec, -⟩ := h
  refine ⟨fun i => ?_, movement_closed (fun k => ?_) (by rw [hrec]; exact Nat.zero_le _)⟩
  · rw [htanks, slot_replicate]
    exact account_por_lawful
  · rw [hchannels, slot_replicate]
    rfl

theorem PorBlocks.nodes (h : PorBlocks t) : NodeLaw t := by
  obtain ⟨-, -, -, -, -, -, -, hl⟩ := h
  intro l i e he
  rw [hl, LineCtl.por, slot_replicate] at he
  cases he

/-- Full reset gives laws, whatever held before. -/
theorem PorBlocks.sound (h : PorBlocks t) (hon : Onward s t) : Sound s t where
  onward := hon
  engines := fun _ => h.engines
  rudders := fun _ => h.rudders
  couplings := fun _ => h.couplings
  fuel := fun _ => h.fuel
  nodes := fun _ => h.nodes
  coasts := fun i => by
    rw [h.2.1, slot_replicate]
    exact fresh_coasts ..

theorem porBlocks_por : PorBlocks (State.por now choices lv straps pending) := by
  refine ⟨rfl, rfl, rfl, rfl, rfl, rfl, rfl, fun l => ?_⟩
  cases l <;> rfl

theorem porBlocks_beginReset (s : State) : PorBlocks s.beginReset := by
  refine ⟨rfl, rfl, rfl, rfl, rfl, rfl, rfl, fun l => ?_⟩
  cases l <;> rfl

end

/-! ## Commit (R184, R185) -/

section
variable (lines : PerStation Bool)

/-- R66: an engine at commit, whatever the latch was. -/
theorem Engine.commit_lawful {e : Engine} {node : Option NodeRef} {feed : FeedLevel} {l m : Bool} (h : e.Lawful l) :
    (e.commit node feed).Lawful m := by
  unfold Engine.commit
  split
  · exact fresh_lawful ..
  · rename_i hno
    exact ⟨(rederive_unconfigured (by simpa using hno) m l).trans h.1, h.2⟩

theorem Engine.commit_coasts (e : Engine) (node : Option NodeRef) (feed : FeedLevel) : e.Coasts (e.commit node feed) := by
  unfold Engine.commit
  split
  · exact fresh_coasts ..
  · exact .refl e

theorem Rudder.commit_lawful {r : Rudder} {node : Option NodeRef} (h : r.Lawful) : (r.commit node).Lawful := by
  unfold Rudder.commit
  split
  · exact Rudder.fresh_lawful ..
  · exact h

/-- R101. -/
theorem Coupling.commit_lawful {c : Coupling} {node : Option NodeRef} {running : Bool} (h : c.Lawful running) :
    (c.commit node).Lawful true := by
  obtain ⟨h1, h2, h3, -⟩ := h
  unfold Coupling.commit
  split
  · exact (Coupling.fresh_lawful true true c.cfg node).of_same rfl rfl rfl fun _ => .inl
  · exact ⟨h1, h2, h3, fun hrun => by cases hrun⟩

/-- R101: after a commit a used coupling is UNKNOWN. -/
theorem Coupling.commit_state {c : Coupling} {node : Option NodeRef} (h : (c.commit node).used = true) :
    (c.commit node).state = .UNKNOWN := by
  unfold Coupling.commit at h ⊢
  split
  · rfl
  · rename_i hno
    exact absurd h (by rwa [if_neg hno])

/-- R134: a commit keeps the accounts. -/
theorem Tank.commit_account (node : Option NodeRef) (x : Tank) : (x.commit node).account = x.account := by
  unfold Tank.commit
  split <;> rfl

theorem line_commitBlocks (l : Line) : (s.commitBlocks lines).line l = (s.line l).commit s.now := by
  cases l
  · simp only [State.line, State.commitBlocks, PerLine.get]
  · simp only [State.line, State.commitBlocks, PerLine.get]

/-- R153: in CONFIGURING no channel is open, and a commit opens none. -/
theorem Sound.commitBlocks (hrun : s.running = false) : Sound s (s.commitBlocks lines) where
  onward := ⟨rfl, le_rfl⟩
  engines := fun h i => by
    simp only [State.commitBlocks, slot_ofFn]
    exact Engine.commit_lawful (h i)
  rudders := fun h i => by
    simp only [State.commitBlocks, slot_ofFn]
    exact Rudder.commit_lawful (h i)
  couplings := fun ⟨h, _⟩ => by
    refine ⟨fun i => ?_, fun i hused _ hst => ?_⟩
    · simp only [State.commitBlocks, slot_ofFn]
      exact Coupling.commit_lawful (h i)
    · simp only [State.commitBlocks, slot_ofFn] at hused hst
      rw [Coupling.commit_state hused] at hst
      obtain hst | hst := hst <;> cases hst
  fuel := fun ⟨ha, ⟨hrec, _, _, _, hclosed⟩, _⟩ => by
    refine ⟨fun i => ?_, movement_closed (fun k => ?_) ((Nat.le_add_right _ _).trans hrec)⟩
    · simp only [State.commitBlocks, State.committedTanks, slot_ofFn, Tank.commit_account]
      exact ha i
    · obtain ⟨h0, h1⟩ := hclosed hrun
      match k with
      | 0 => exact h0
      | 1 => exact h1
  nodes := fun _ l => by
    rw [line_commitBlocks]
    exact fit_commit _ _
  coasts := fun i => by
    simp only [State.commitBlocks, slot_ofFn]
    exact Engine.commit_coasts ..

theorem Sound.commit (hrun : s.running = false) : Sound s (s.commit lines) :=
  ((Sound.commitBlocks lines hrun).trans (Tidy.post _ _).toSound).trans (Tidy.postIf _ _ _).toSound

end

/-! ## Reconfigure (R186) -/

/-- R186, item 4: at rest every configured engine is in NEUTRAL, and the channels are closed. -/
theorem neutral_of_atRest (h : s.atRest = true) (i : Fin 8) (hc : s.engines[i].configured = true) :
    s.engines[i].gear = .NEUTRAL := by
  simp only [State.atRest, Bool.and_eq_true, List.all_eq_true] at h
  have hi := h.1 s.engines[i] (by simp)
  rw [hc] at hi
  simpa using (Bool.and_eq_true_iff.mp hi).1

theorem closed_of_atRest (h : s.atRest = true) (k : Fin 2) : s.channels[k].isOpen = false := by
  simp only [State.atRest, Bool.and_eq_true, List.all_eq_true] at h
  have hk := h.2 s.channels[k] (by simp)
  rwa [Bool.not_eq_true'] at hk

theorem Engine.reconfigure_lawful {e : Engine} {l : Bool} (h : e.Lawful l)
    (hrest : e.configured = true → e.gear = .NEUTRAL) : e.reconfigure.Lawful false := by
  unfold Engine.reconfigure
  split
  · rename_i hc
    exact ⟨rfl, fun _ => hrest hc⟩
  · rename_i hno
    exact ⟨(rederive_unconfigured (by simpa using hno) false l).trans h.1, h.2⟩

theorem Engine.reconfigure_coasts (e : Engine) : e.Coasts e.reconfigure := by
  unfold Engine.reconfigure
  split
  · exact .inl ⟨rfl, rfl, rfl⟩
  · exact .refl e

theorem Rudder.reconfigure_lawful {r : Rudder} (h : r.Lawful) : r.reconfigure.Lawful := by
  unfold Rudder.reconfigure
  split
  · exact ⟨rfl, fun hj => Bool.noConfusion hj⟩
  · exact h

theorem no_deadline {c : Coupling} (h : c.deadline = none) (d : StateDeadline) (hd : c.deadline = some d) :
    c.state = deadlineState d.kind := by
  rw [h] at hd
  cases hd

/-- R102: after a reconfigure no coupling is in a state that must be watched. -/
theorem Coupling.reconfigure_lawful {c : Coupling} {running : Bool} (h : c.Lawful running) :
    c.reconfigure.Lawful false := by
  obtain ⟨hcmd, hd, hused, -⟩ := h
  unfold Coupling.reconfigure
  dsimp only
  split
  · rename_i hno
    refine ⟨hcmd, hd, hused, fun _ => ?_⟩
    rw [hused.mp (by simpa using hno)]
    rfl
  · rename_i hyes
    have hyes : c.used = true := by simpa using hyes
    split
    · exact ⟨rfl, no_deadline rfl, iff_of_false (hyes ▸ Bool.noConfusion) CouplingState.noConfusion, fun _ => rfl⟩
    · rename_i hw
      exact ⟨hcmd, no_deadline rfl, hused, fun _ => by simpa using hw⟩

theorem Tank.reconfigure_account (x : Tank) : x.reconfigure.account = x.account := by
  unfold Tank.reconfigure
  split <;> rfl

/-- A coupling that is not watched is not let go. -/
theorem not_let_go {c : Coupling} (h : c.state.watched = false) : ¬(c.state = .RELEASING ∨ c.state = .RELEASED) := by
  rintro (hst | hst) <;> simp [hst] at h <;> cases h

/-- What a reconfigure gives the tables, as far as the laws read them. -/
abbrev ReconfiguredBlocks (s t : State) : Prop :=
  t.running = false ∧ t.tripLatch = { lead := false, helper := false, bow := false }
    ∧ (∀ i : Fin 8, t.engines[i] = s.engines[i].reconfigure) ∧ (∀ i : Fin 8, t.rudders[i] = s.rudders[i].reconfigure)
    ∧ (∀ i : Fin 24, t.couplings[i] = s.couplings[i].reconfigure) ∧ (∀ i : Fin 8, t.tanks[i] = s.tanks[i].reconfigure)
    ∧ t.channels = s.channels ∧ t.records = s.records ∧ (∀ l, (t.line l).Fit) ∧ Onward s t

theorem reconfigureBlocks_tables (s : State) : ReconfiguredBlocks s s.reconfigureBlocks := by
  have hlines := postIf_keeps (!s.lines.a.heard.isEmpty || !s.lines.b.heard.isEmpty) .NODE_CHANGED
    { s with lines := { a := s.lines.a.reconfigure s.now, b := s.lines.b.reconfigure s.now } }
  obtain ⟨⟨hbase, -⟩, ⟨-, -, ⟨hchannels, hrec, -⟩⟩, -, hlines⟩ := hlines
  refine ⟨rfl, rfl, fun i => slot_ofFn .., fun i => slot_ofFn .., fun i => slot_ofFn .., fun i => slot_ofFn ..,
    hchannels, hrec, fun l => ?_, onward_of_base hbase⟩
  simp only [State.reconfigureBlocks, State.reconfigureLines, State.line, hlines]
  cases l
  · exact fit_reconfigure _ _
  · exact fit_reconfigure _ _

theorem Sound.reconfigureBlocks (hrest : s.atRest = true) : Sound s s.reconfigureBlocks := by
  obtain ⟨hrun, hlatch, he, hr, hc, htanks, hchannels, hrec, hl, hon⟩ := reconfigureBlocks_tables s
  generalize s.reconfigureBlocks = t at *
  have hdown : ∀ st, t.tripLatch.get st = false := fun st => by
    rw [hlatch]
    cases st <;> rfl
  exact {
    engines := fun h i => by
      rw [hdown, he]
      exact Engine.reconfigure_lawful (h i) (neutral_of_atRest hrest i)
    rudders := fun h i => by
      rw [hr]
      exact Rudder.reconfigure_lawful (h i)
    couplings := fun ⟨h, _⟩ => by
      have hlaw : CouplingLaw t := fun i => by
        rw [hc, hrun]
        exact Coupling.reconfigure_lawful (h i)
      exact ⟨hlaw, fun i _ _ hst => absurd hst (not_let_go ((hlaw i).2.2.2 hrun))⟩
    fuel := fun ⟨ha, ⟨hlen, _⟩, _⟩ => by
      refine ⟨fun i => ?_, movement_closed (fun k => hchannels ▸ closed_of_atRest hrest k) ?_⟩
      · rw [htanks, Tank.reconfigure_account]
        exact ha i
      · rw [hrec]
        exact (Nat.le_add_right _ _).trans hlen
    nodes := fun _ => hl
    onward := hon
    coasts := fun i => by
      rw [he]
      exact Engine.reconfigure_coasts _ }

/-! ## The ports and the helm -/

/-- A change of the ports alone. -/
theorem Sound.of_ports (h : OnlyPorts s t) : Sound s t := by
  obtain ⟨⟨hbase, -, halloc, hr, hc, hphase⟩, ⟨-, hf, hm⟩, he, hl⟩ := h
  exact .of_kept (onward_of_base hbase) ⟨he.1, he.2.1⟩ hr.1 ⟨hc.1, hc.2, halloc.1⟩ ⟨hf, hm.1, hm.2.1⟩ (nodesKept_of_lines hl) (by rw [hphase])

/-- A change of the helm record and the ports alone. -/
theorem Sound.of_helm (h : OnlyHelm s t) : Sound s t := by
  obtain ⟨hbase, -, halloc, hr, hc, hphase, ⟨-, hf, hm⟩, he, hl⟩ := h
  exact .of_kept (onward_of_base hbase) ⟨he.1, he.2.1⟩ hr.1 ⟨hc.1, hc.2, halloc.1⟩ ⟨hf, hm.1, hm.2.1⟩ (nodesKept_of_lines hl) (by rw [hphase])

theorem Sound.refl (s : State) : Sound s s := (Tidy.refl s).toSound

theorem Sound.reply (p : Port) (tag : Byte) (r : Result) (body : List Byte) (s : State) : Sound s (s.reply p tag r body) :=
  .of_ports (reply_keeps ..)

theorem Sound.modPort (p : Port) (f : PortRec → PortRec) (s : State) : Sound s (s.modPort p f) :=
  .of_ports (modPort_keeps ..)

theorem Sound.answerClaim (b : Option Bridge) (r : Result) (s : State) : Sound s (answerClaim b r s) := by
  unfold Machine.answerClaim
  split
  · exact .refl s
  · split
    · exact .refl s
    · exact (Sound.reply ..).trans (.modPort ..)

theorem Sound.reconfigure (hrest : s.atRest = true) : Sound s s.reconfigure := by
  refine Sound.trans ?_ (.answerClaim ..)
  have hpost := fun (k : EventKind) (s : State) => (Tidy.post k s).toSound
  have hpostIf := fun (b : Bool) (k : EventKind) (s : State) => (Tidy.postIf b k s).toSound
  exact ((((((Sound.reconfigureBlocks hrest).trans (hpost _ _)).trans (hpost _ _)).trans (hpostIf _ _ _)).trans
    (hpostIf _ _ _)).trans (hpostIf _ _ _)).trans (hpostIf _ _ _)

theorem Sound.grantRequester (s : State) : Sound s (grantRequester s) :=
  Sound.trans (.of_helm (changeHolder_keeps ..).1) (.answerClaim ..)

/-- The order alone changes. -/
theorem Sound.order (o : Order) (s : State) : Sound s { s with order := o } :=
  .of_kept ⟨rfl, le_rfl⟩ ⟨rfl, rfl⟩ rfl ⟨rfl, rfl, rfl⟩ ⟨rfl, rfl, rfl⟩ (fun _ => rfl) rfl

theorem Sound.seeTake (b : Bridge) (line : Bool) (s : State) : Sound s (s.seeTake b line) := by
  cases b
  · exact .of_kept ⟨rfl, le_rfl⟩ ⟨rfl, rfl⟩ rfl ⟨rfl, rfl, rfl⟩ ⟨rfl, rfl, rfl⟩ (fun _ => rfl) rfl
  · exact .of_kept ⟨rfl, le_rfl⟩ ⟨rfl, rfl⟩ rfl ⟨rfl, rfl, rfl⟩ ⟨rfl, rfl, rfl⟩ (fun _ => rfl) rfl

theorem Sound.setPolicy (b : Bridge) (y : YieldPolicy) (s : State) : Sound s (setPolicy b y s) := by
  cases b
  · exact .of_kept ⟨rfl, le_rfl⟩ ⟨rfl, rfl⟩ rfl ⟨rfl, rfl, rfl⟩ ⟨rfl, rfl, rfl⟩ (fun _ => rfl) rfl
  · exact .of_kept ⟨rfl, le_rfl⟩ ⟨rfl, rfl⟩ rfl ⟨rfl, rfl, rfl⟩ ⟨rfl, rfl, rfl⟩ (fun _ => rfl) rfl

end Sys2Proof.Machine
end

section
/-! SUPPORT. Every command keeps the laws of the blocks; all but a pass result taken leave the setpoints of the engines, or
bring them to NEUTRAL at idle. -/

namespace Sys2Proof.Machine

open Sys2Proof

variable {s t : State} {p : Port}

/-! ## The helm requests, COMMIT_CONFIG and RECONFIGURE -/

theorem sound_bridgeInRunning {g : Bridge → Act} (h : ∀ b, Sound s (g b s).1) : Sound s (bridgeInRunning p g s).1 := by
  unfold bridgeInRunning
  split
  · exact .refl s
  · split
    · exact h _
    · exact .refl s

theorem sound_orElse {α : Type} {x : Option α} {r : Result} {g : α → Act} (h : ∀ a, Sound s (g a s).1) :
    Sound s (orElse x r g s).1 := by
  cases x with
  | none => exact .refl s
  | some a => exact h a

theorem sound_grantTo (b : Bridge) : Sound s (grantTo b s).1 := .of_helm (changeHolder_keeps ..).1

theorem sound_postTo (q : Port) (k : EventKind) (s : State) : Sound s (s.postTo q k) := .of_ports (postTo_keeps ..)

theorem sound_claim : Sound s (decideClaimHelm p s).1 := by
  refine sound_bridgeInRunning fun b => ?_
  split
  · exact sound_grantTo b
  · split
    · exact .refl s
    · split
      · exact .refl s
      · unfold claimAgainst
        split
        · exact sound_grantTo b
        · exact .refl s
        · refine Sound.trans ?_ (sound_postTo ..)
          exact .of_helm (by and_intros <;> rfl)

theorem sound_answer (choice : Byte) : Sound s (decideAnswerHelm p choice s).1 := by
  refine sound_bridgeInRunning fun b => sound_orElse fun accept => ?_
  split
  · cases accept
    · exact Sound.trans (.of_helm (endQuery_keeps s).1) (.answerClaim ..)
    · exact .grantRequester s
  · exact .refl s

theorem sound_cancel : Sound s (decideCancel p s).1 := by
  refine sound_bridgeInRunning fun b => ?_
  split
  · exact Sound.trans (.of_helm (endQuery_keeps s).1) (.answerClaim ..)
  · exact .refl s

theorem sound_release : Sound s (decideReleaseHelm p s).1 := by
  refine sound_bridgeInRunning fun b => ?_
  split
  · dsimp only [doneWith]
    split
    · exact .grantRequester s
    · exact Sound.trans (.of_helm (changeHolder_keeps ..).1) (.order ..)
  · exact .refl s

theorem sound_takeFrom (h b : Bridge) : Sound s (takeFrom h b s).1 := by
  refine Sound.trans (Sound.trans ?_ (.of_helm (changeHolder_keeps ..).1)) (sound_postTo ..)
  exact .of_helm (by and_intros <;> rfl)

theorem sound_take (line : Bool) : Sound s (decideTakeHelm p line s).1 := by
  refine sound_bridgeInRunning fun b => ?_
  split
  · exact sound_grantTo b
  · split
    · exact .refl s
    · split
      · exact .refl s
      · split
        · exact Sound.trans (.seeTake ..) (sound_takeFrom ..)
        · exact .seeTake ..

theorem sound_setOrder (thrust turn : Half) (mode : Byte) : Sound s (decideSetOrder p thrust turn mode s).1 := by
  refine sound_bridgeInRunning fun b => sound_orElse fun m => ?_
  split
  · exact .order ..
  · exact .refl s

theorem sound_commitConfig (lines : PerStation Bool) : Sound s (decideCommitConfig lines s).1 := by
  unfold decideCommitConfig inConfiguring
  split
  · exact .refl s
  · rename_i hrun
    dsimp only
    split
    · exact .of_kept ⟨rfl, le_rfl⟩ ⟨rfl, rfl⟩ rfl ⟨rfl, rfl, rfl⟩ ⟨rfl, rfl, rfl⟩ (fun _ => rfl) rfl
    · exact .commit lines (by simpa using hrun)

theorem sound_reconfigure : Sound s (decideReconfigure p s).1 := by
  refine sound_bridgeInRunning fun b => ?_
  split
  · dsimp only
    split
    · rename_i hrest
      exact .reconfigure hrest
    · exact .refl s
  · exact .refl s

/-- Whatever a request is decided, the laws of the blocks hold. -/
theorem sound_of_request {c : Instr} {r : Request} (hc : requestParts c = some r) (s : State) : Sound s (r.act s).1 := by
  cases hlink : linkRequest c with
  | false =>
    obtain ⟨t, x, body, heq, ht⟩ := tidies_of_request hc hlink s
    rw [heq]
    exact ht.toSound
  | true =>
    cases c
    case claimHelm => cases hc; exact sound_claim
    case answerHelm => cases hc; exact sound_answer _
    case cancel => cases hc; exact sound_cancel
    case releaseHelm => cases hc; exact sound_release
    case takeHelm => cases hc; exact sound_take _
    case setYieldPolicy =>
      cases hc
      exact sound_bridgeInRunning fun _ => sound_orElse fun _ => .setPolicy ..
    case setOrder => cases hc; exact sound_setOrder _ _ _
    case commitConfig => cases hc; exact sound_commitConfig _
    case reconfigure => cases hc; exact sound_reconfigure
    all_goals cases hlink

/-! ## Frames and bytes (R169, R170, R172) -/

theorem Sound.notice (p : Port) (s : State) : Sound s (holderNotice p s) := .of_helm (holderNotice_keeps p s).1

theorem Sound.handleFrame (tag code : Byte) (act : Option Act) (h : ∀ f, act = some f → ∀ s, Sound s (f s).1) (s : State) :
    Sound s (handleFrame p tag code act s) := by
  unfold Machine.handleFrame
  split
  · exact Sound.trans (.modPort ..) (.notice ..)
  · refine (Sound.notice p s).trans ?_
    dsimp only
    split
    · exact Sound.trans (.modPort ..) (.reply ..)
    · split
      · exact .reply ..
      · rename_i f
        have hf := h f rfl (holderNotice p s)
        split
        · rename_i heq
          rw [heq] at hf
          exact hf.trans (.reply ..)
        · rename_i heq
          rw [heq] at hf
          exact hf.trans (.modPort ..)

/-- R172, item 5: what a frame is routed to is the decision of a request of the table. -/
theorem requestParts_of_route {f : RequestFrame} {lv : LineLevels} {act : Act}
    (h : route p f.code f.params lv = some act) : ∃ c, requestParts c = some ⟨p, f.tag, f.code, act⟩ := by
  have hr := route_requestOf p f lv
  rw [h, Option.map_some, Option.bind_eq_some_iff] at hr
  obtain ⟨c, -, hc⟩ := hr
  exact ⟨c, hc⟩

theorem Sound.receiveFrame (p : Port) (f : RequestFrame) (lv : LineLevels) (s : State) :
    Sound s (receiveFrame p f lv s) := by
  unfold Machine.receiveFrame
  split
  · exact .modPort ..
  · split
    · refine .handleFrame _ _ _ (fun act hact => ?_) s
      obtain ⟨c, hc⟩ := requestParts_of_route hact
      exact sound_of_request hc
    · exact .modPort ..

theorem Sound.receiveByteAt (p : Port) (n : Nat) (b : Byte) (framing : Bool) (lv : LineLevels) (s : State) :
    Sound s (receiveByteAt p n b framing lv s) := by
  unfold Machine.receiveByteAt
  dsimp only
  split
  · exact .of_ports (setPort_keeps ..)
  · exact Sound.trans (.of_ports (setPort_keeps ..)) (.receiveFrame ..)

theorem Sound.byteEnds (p : Port) (lv : LineLevels) (s : State) : Sound s (byteEnds p lv s) := by
  unfold Machine.byteEnds
  split
  · exact .refl s
  · dsimp only
    split
    · exact Sound.trans (.modPort ..) (.receiveByteAt ..)
    · exact .modPort ..

theorem Sound.portEdge (p : Port) (x : ByteSamples) (lv : LineLevels) (s : State) : Sound s (portEdge p x lv s) := by
  have hfree : Sound s (freePort p s) := by
    unfold freePort
    split
    · exact .refl s
    · split
      · exact .byteEnds ..
      · exact .refl s
  unfold Machine.portEdge
  dsimp only
  split
  · exact hfree.trans (.modPort ..)
  · exact hfree

/-! ## Every command -/

theorem sound_live {f : State → State} (h : Sound s (f s)) : Reaches Sound (live s f) s := reaches_live (.refl s) fun _ => h

theorem Sound.onExpiry {d : Option Nat} {f : Nat → State → State} (h : ∀ n, Sound (s.reach n) (f n (s.reach n))) :
    Sound s (onExpiry d f s) := by
  cases d with
  | none => exact .refl s
  | some n => exact (Tidy.reach n s).toSound.trans (h n)

theorem Reaches.mono {R Q : State → State → Prop} {o : Out} (h : Reaches R o s) (hrq : ∀ t, R s t → Q s t) : Reaches Q o s := by
  obtain ⟨t, heq, ht⟩ := h
  exact ⟨t, heq, hrq t ht⟩

theorem Sound.holderSilent (s : State) : Sound s (holderSilent s) := by
  unfold Machine.holderSilent
  split
  · exact .grantRequester s
  · exact Sound.trans (.of_helm (changeHolder_keeps ..).1) (Tidy.post ..).toSound

theorem Sound.decayStep (n : Nat) (s : State) : Sound s (decayStep n s) :=
  .of_kept ⟨rfl, le_rfl⟩ ⟨rfl, rfl⟩ rfl ⟨rfl, rfl, rfl⟩ ⟨rfl, rfl, rfl⟩ (fun _ => rfl) rfl

/-- The commands at the ports and the deadlines of the helm, which change a link, and full reset. -/
theorem sound_of_linkEvent {c : Instr} (hc : ((requestParts c).isSome || ownEvent c) = false)
    (hpass : c ≠ .passResultTakenEngines) (s : State) : Reaches Sound (exec c s) s := by
  cases c
  case queryDeadlineExpiry =>
    rw [exec, execQueryDeadlineExpiry]
    exact sound_live (.onExpiry fun _ => Sound.trans (.of_helm (endQuery_keeps _).1) (.answerClaim ..))
  case silenceDeadlineExpiry =>
    rw [exec, execSilenceDeadlineExpiry]
    exact sound_live (.onExpiry fun _ => .holderSilent _)
  case decayTimerExpiry =>
    rw [exec, execDecayTimerExpiry]
    exact sound_live (.onExpiry fun _ => .decayStep ..)
  case requestFrameReceived =>
    rw [exec, execRequestFrameReceived]
    exact sound_live (.receiveFrame ..)
  case portByteReceived p event lv =>
    rw [exec, execPortByteReceived]
    refine sound_live ?_
    cases event with
    | edge x => exact .portEdge ..
    | ends => exact .onExpiry fun _ => .byteEnds ..
  case replySent =>
    rw [exec, execReplySent]
    exact sound_live (.onExpiry fun _ => .modPort ..)
  case fullReset => exact ⟨_, rfl, (porBlocks_beginReset s).sound ⟨rfl, le_rfl⟩⟩
  case resetEnd straps =>
    rw [exec, execResetEnd]
    cases hreset : s.inReset with
    | true => exact ⟨_, rfl, porBlocks_por.sound ⟨rfl, le_rfl⟩⟩
    | false => exact ⟨_, rfl, .refl s⟩
  case passResultTakenEngines => exact absurd rfl hpass
  all_goals cases hc

theorem sound_of_exec {c : Instr} (hpass : c ≠ .passResultTakenEngines) (s : State) : Reaches Sound (exec c s) s := by
  cases hr : requestParts c with
  | some r =>
    rw [exec_request hr, request]
    exact sound_live (.handleFrame _ _ _ (fun f hf => by cases hf; exact sound_of_request hr) s)
  | none =>
    cases ho : ownEvent c with
    | true => exact (tidy_of_ownEvent ho s).mono fun _ h => h.toSound
    | false => exact sound_of_linkEvent (by rw [hr, ho]; rfl) hpass s

/-- R58: shares applied touch no law but that of the engines, and that law they keep. -/
theorem Lawful.applyShares (shares : Vector Int 8) (s : State) :
    Lawful s (State.applyShares shares { s with engineResult := none }) where
  engines := applyShares_engineLaw (s := { s with engineResult := none }) shares
  rudders := id
  couplings := id
  fuel := id
  nodes := id

theorem lawful_of_exec (c : Instr) (s : State) : Reaches (fun s t => Lawful s t ∧ Onward s t) (exec c s) s := by
  by_cases hpass : c = .passResultTakenEngines
  · have hrefl : Lawful s s ∧ Onward s s := ⟨(Sound.refl s).toLawful, rfl, le_rfl⟩
    subst c
    rw [exec, execPassResultTakenEngines]
    refine reaches_live hrefl fun _ => ?_
    split
    · exact hrefl
    · exact ⟨.applyShares _ s, rfl, le_rfl⟩
  · exact (sound_of_exec hpass s).mono fun _ h => ⟨h.toLawful, h.onward⟩

/-! ## Every step -/

/-- With an empty queue nothing changes but the clock, the queue and the count of free choices. -/
theorem idle_eq (s : State) : ∃ now choices pending, s.idle = { s with now := now, choices := choices, pending := pending } := by
  unfold State.idle
  split
  · exact ⟨_, _, _, rfl⟩
  · exact ⟨_, _, _, rfl⟩
  · exact ⟨_, _, _, rfl⟩

/-- The clock, the queue and the count of free choices are read by no law. -/
theorem idle_lawful (s : State) : Lawful s s.idle := by
  obtain ⟨now, choices, pending, h⟩ := idle_eq s
  rw [h]
  exact ⟨id, id, id, id, id⟩

theorem links_idle (s : State) : SameLinks s s.idle := by
  obtain ⟨now, choices, pending, h⟩ := idle_eq s
  rw [h]
  exact ⟨rfl, rfl, rfl, fun _ => .refl _⟩

theorem engines_idle (s : State) : s.idle.engines = s.engines := by
  obtain ⟨now, choices, pending, h⟩ := idle_eq s
  rw [h]

theorem step_cons {c : Instr} {rest : List Instr} (h : s.pending = c :: rest) : step s = exec c { s with pending := rest } := by
  rw [step, h]

theorem step_nil (h : s.pending = []) : step s = .next s.idle := by rw [step, h]

theorem next_inj {o : Out} {a b : State} (ha : o = .next a) (hb : o = .next b) : a = b := by
  rw [ha] at hb
  injection hb

theorem step_lawful (h : step s = .next t) : Lawful s t := by
  cases hp : s.pending with
  | nil =>
    obtain rfl := next_inj (step_nil hp) h
    exact idle_lawful s
  | cons c rest =>
    rw [step_cons hp] at h
    obtain ⟨u, hu, ⟨he, hr, hc, hf, hn⟩, -⟩ := lawful_of_exec c { s with pending := rest }
    obtain rfl := next_inj hu h
    exact ⟨he, hr, hc, hf, hn⟩

end Sys2Proof.Machine
end

section
/-! SUPPORT. The statements about the laws of the blocks. -/

namespace Sys2Proof.Machine

open Sys2Proof

/-- Settles O57, by `step_lawful`: each command is a chain of operations that keep the law of each slot. -/
theorem stepKeepsEngineLaws : Obligations.StepKeepsEngineLaws := fun _ _ he hr h =>
  ⟨(step_lawful h).engines he, (step_lawful h).rudders hr⟩

/-- Settles O58, by `step_lawful`: the ceilings are computed at each change of state of a coupling. -/
theorem stepKeepsCouplingLaws : Obligations.StepKeepsCouplingLaws := fun _ _ hc hceil h =>
  (step_lawful h).couplings ⟨hc, hceil⟩

/-- Settles O59, by `step_lawful`: a channel heeds each new state of a tank, and its claims only narrow while it is open. -/
theorem stepKeepsFuelLaws : Obligations.StepKeepsFuelLaws := fun _ _ ha hm hf h => (step_lawful h).fuel ⟨ha, hm, hf⟩

/-- Settles O60, by `step_lawful`: the state of an entry changes with its failures alone. -/
theorem stepKeepsNodeLaw : Obligations.StepKeepsNodeLaw := fun _ _ hn h => (step_lawful h).nodes hn

end Sys2Proof.Machine
end

section
/-! SUPPORT. From share to setpoint (R58 to R61): what a share does to a slot, and that no step reverses a gear directly. -/

namespace Sys2Proof.Machine

open Sys2Proof

variable {s t : State} {e e' : Engine} {dwell confirm : Nat} {share : Int}

/-! ## A share at a slot -/

/-- R59: an engine in the target gear ramps toward the target rpm. -/
theorem applyShare_ramp (hg : e.gear ≠ .NEUTRAL) (h : targetGear share = e.gear) :
    e.applyShare dwell confirm share = { e with rpm := e.cfg.rampTo (e.cfg.targetRpm share) e.rpm } := by
  simp only [Engine.applyShare, if_neg hg, h, if_true]

/-- R60: an engine in another gear ramps out. -/
theorem applyShare_rampOut (hg : e.gear ≠ .NEUTRAL) (h : targetGear share ≠ e.gear) :
    e.applyShare dwell confirm share = e.rampOut dwell := by
  simp only [Engine.applyShare, if_neg hg, if_neg h.symm]

/-- R61: an engine in NEUTRAL engages the target gear where it may. -/
theorem applyShare_engage (hg : e.gear = .NEUTRAL) (h : targetGear share ≠ .NEUTRAL)
    (hmay : e.mayEngage (targetGear share) = true) :
    e.applyShare dwell confirm share = e.engage (targetGear share) confirm := by
  simp only [Engine.applyShare, if_pos hg, if_pos (And.intro h hmay)]

theorem applyShare_wait (hg : e.gear = .NEUTRAL)
    (h : ¬(targetGear share ≠ .NEUTRAL ∧ e.mayEngage (targetGear share) = true)) :
    e.applyShare dwell confirm share = e := by
  simp only [Engine.applyShare, if_pos hg, if_neg h]

theorem rampOut_on (h : e.cfg.idleRpm < e.rpm - rampStep e.cfg.downRamp) :
    e.rampOut dwell = { e with rpm := e.rpm - rampStep e.cfg.downRamp } := by
  simp only [Engine.rampOut, Nat.max_eq_right h.le, if_neg h.ne']

theorem rampOut_idle (h : e.rpm - rampStep e.cfg.downRamp ≤ e.cfg.idleRpm) : e.rampOut dwell = e.toNeutral dwell := by
  simp only [Engine.rampOut, Nat.max_eq_left h, if_true]

/-- R61. -/
theorem mayEngage_iff (g : Gear) (e : Engine) :
    e.mayEngage g = true ↔ e.lastGear = none ∨ e.lastGear = engagedOf g ∨ e.dwell = none := by
  simp [Engine.mayEngage, or_assoc]

/-- Settles O30: the branches of `Engine.applyShare`. -/
theorem sharesMoveSetpoints : Obligations.SharesMoveSetpoints := by
  refine ⟨fun shares s hreset hr => ?taken, fun s hr => ?none, fun e dwell confirm target share g hg ht => ?share⟩
  case taken =>
    rw [exec, execPassResultTakenEngines, live_awake hreset, hr]
    simp only [State.applyShares, State.dwellEnd, State.after, Bool.and_eq_true]
  case none =>
    rw [exec, execPassResultTakenEngines, live_eq, hr, ite_self]
  case share =>
    obtain rfl : g = targetGear share := hg
    obtain rfl : target = e.cfg.targetRpm share := ht
    refine ⟨fun hn h hlt => ?_, fun hn h hle => ?_, fun hn h hlt => ?_, fun hn h hle => ?_, fun hn h => ?_,
      fun x hn h => ⟨fun hmay => ?_, fun hno => ?_⟩⟩
    · rw [applyShare_ramp hn h, EngineCfg.rampTo, if_pos hlt, rampStep]
    · rw [applyShare_ramp hn h, EngineCfg.rampTo, if_neg (Nat.not_lt.mpr hle), rampStep]
    · rw [applyShare_rampOut hn h, rampOut_on hlt, rampStep]
    · rw [applyShare_rampOut hn h, rampOut_idle hle, Engine.toNeutral]
    · exact applyShare_wait hn fun hne => hne.1 h
    · have hx : targetGear share ≠ .NEUTRAL ∧ engagedOf (targetGear share) = some x := by
        obtain ⟨h, rfl⟩ | ⟨h, rfl⟩ := h <;> rw [h] <;> exact ⟨by decide, rfl⟩
      rw [applyShare_engage hn hx.1 ((mayEngage_iff ..).mpr (hx.2 ▸ hmay)), Engine.engage, hx.2]
    · have hx : engagedOf (targetGear share) = some x := by
        obtain ⟨h, rfl⟩ | ⟨h, rfl⟩ := h <;> rw [h] <;> rfl
      exact applyShare_wait hn fun hne => hno (hx ▸ (mayEngage_iff ..).mp hne.2)

/-! ## No direct reversal (R60, R61) -/

/-- R60, R61: the ways a setpoint may change at a step: the gear stays, or it is left at idle, or it is engaged from NEUTRAL
where the engine may. -/
def Engine.Shifts (e e' : Engine) : Prop :=
  e'.gear = e.gear ∨ (e'.gear = .NEUTRAL ∧ e'.rpm = e'.cfg.idleRpm) ∨ (e.gear = .NEUTRAL ∧ e.mayEngage e'.gear = true)

theorem Engine.Coasts.shifts (h : e.Coasts e') : e.Shifts e' := h.imp (fun h => h.1) .inl

theorem applyShare_shifts (dwell confirm : Nat) (share : Int) (e : Engine) : e.Shifts (e.applyShare dwell confirm share) := by
  by_cases hn : e.gear = .NEUTRAL
  · by_cases hmay : targetGear share ≠ .NEUTRAL ∧ e.mayEngage (targetGear share) = true
    · rw [applyShare_engage hn hmay.1 hmay.2]
      exact .inr (.inr ⟨hn, hmay.2⟩)
    · rw [applyShare_wait hn hmay]
      exact .inl rfl
  · by_cases hg : targetGear share = e.gear
    · rw [applyShare_ramp hn hg]
      exact .inl rfl
    · rw [applyShare_rampOut hn hg]
      obtain hlt | hle := Nat.lt_or_ge e.cfg.idleRpm (e.rpm - rampStep e.cfg.downRamp)
      · rw [rampOut_on hlt]
        exact .inl rfl
      · rw [rampOut_idle hle]
        exact .inr (.inl ⟨rfl, rfl⟩)

theorem shifts_of_exec (c : Instr) (s : State) :
    Reaches (fun s t => ∀ i : Fin 8, s.engines[i].Shifts t.engines[i]) (exec c s) s := by
  by_cases hpass : c = .passResultTakenEngines
  · subst c
    rw [exec, execPassResultTakenEngines]
    refine reaches_live (fun _ => .inl rfl) fun _ i => ?_
    split
    · exact .inl rfl
    · simp only [State.applyShares, slot_ofFn]
      split
      · exact applyShare_shifts ..
      · exact .inl rfl
  · exact (sound_of_exec hpass s).mono fun _ h i => (h.coasts i).shifts

theorem step_shifts (h : step s = .next t) (i : Fin 8) : s.engines[i].Shifts t.engines[i] := by
  cases hp : s.pending with
  | nil =>
    obtain rfl := next_inj (step_nil hp) h
    rw [engines_idle]
    exact .inl rfl
  | cons c rest =>
    rw [step_cons hp] at h
    obtain ⟨u, hu, hshift⟩ := shifts_of_exec c { s with pending := rest }
    obtain rfl := next_inj hu h
    exact hshift i

/-- What R60 and R61 ask of a change of the setpoint. -/
theorem Engine.Shifts.no_reversal (h : e.Shifts e') :
    (e.gear = .AHEAD → e'.gear ≠ .ASTERN) ∧ (e.gear = .ASTERN → e'.gear ≠ .AHEAD)
      ∧ (e.gear ≠ .NEUTRAL → e'.gear = .NEUTRAL → e'.rpm = e'.cfg.idleRpm)
      ∧ (e.gear = .NEUTRAL → e'.gear = .AHEAD → e.lastGear ≠ some .ASTERN ∨ e.dwell = none)
      ∧ (e.gear = .NEUTRAL → e'.gear = .ASTERN → e.lastGear ≠ some .AHEAD ∨ e.dwell = none) := by
  obtain hsame | ⟨hn, hidle⟩ | ⟨hn, hmay⟩ := h
  · rw [hsame]
    refine ⟨fun h => by simp [h], fun h => by simp [h], fun h h' => absurd h' h, fun h h' => ?_, fun h h' => ?_⟩
    · simp [h] at h'
    · simp [h] at h'
  · rw [hn]
    exact ⟨fun _ => by decide, fun _ => by decide, fun _ _ => hidle, fun _ => nofun, fun _ => nofun⟩
  · rw [hn]
    refine ⟨nofun, nofun, fun h => absurd rfl h, fun _ h => ?_, fun _ h => ?_⟩
    all_goals
      rw [h, mayEngage_iff] at hmay
      obtain hmay | hmay | hmay := hmay
      · exact .inl (by simp [hmay])
      · exact .inl (by simp [hmay, engagedOf])
      · exact .inr hmay

/-- Settles O31: a pass result taken is the one command that engages a gear, and from NEUTRAL alone. -/
theorem noDirectReversal : Obligations.NoDirectReversal := fun _ _ i h => (step_shifts h i).no_reversal

end Sys2Proof.Machine
end

section
/-! SUPPORT. Every command keeps the laws of the helm record, the order, the request slots and the output queues. -/

namespace Sys2Proof.Machine

open Sys2Proof

variable {s t : State} {p : Port} {tag code : Byte} {f : Act}

/-! ## The laws, record by record -/

/-- R2, R4, R23: `HelmLaw` of the record. -/
def Helm.Fits (running : Bool) (h : Helm) : Prop :=
  (h.holder.isSome ↔ h.state = .HELD ∨ h.state = .QUERY) ∧ (h.requester.isSome ↔ h.state = .QUERY)
    ∧ (h.requester.isSome → h.requester ≠ h.holder) ∧ (h.queryDeadline.isSome ↔ h.state = .QUERY)
    ∧ (h.silenceDeadline.isSome ↔ h.holder.isSome) ∧ (h.decayTimer.isSome ↔ h.state = .HOLDING)
    ∧ (running = false → h.state = .UNCLAIMED)

/-- R6, R20: `OrderLaw` of the record. -/
def Order.Fits (st : HelmState) (o : Order) : Prop :=
  -1000 ≤ o.thrust ∧ o.thrust ≤ 1000 ∧ -1000 ≤ o.turn ∧ o.turn ≤ 1000 ∧ (st = .UNCLAIMED → o.thrust = 0 ∧ o.turn = 0)

/-- R171 to R173: the request slot and the output queue of one port, whose bridge waits for an answer or does not. -/
def PortRec.Fits (waits : Prop) (r : PortRec) : Prop :=
  (r.slot.isSome ↔ waits) ∧ r.replies.length ≤ 7 ∧ (r.slot.isSome → r.replies.length ≤ 6)
    ∧ (r.txDone.isSome ↔ r.replies ≠ [])

/-- The ports, while `b` is the pending requester. -/
def PortsFit (b : Option Bridge) (s : State) : Prop := ∀ p, (s.port p).Fits (b.map portOfBridge = some p)

/-- The four laws of the command side. -/
structure CommandLaws (s : State) : Prop where
  helm  : s.helm.Fits s.running
  order : s.order.Fits s.helm.state
  ports : PortsFit s.helm.requester s

theorem portOfBridge_ne_E (b : Bridge) : portOfBridge b ≠ .E := by cases b <;> decide

theorem commandLaws_iff (s : State) : CommandLaws s ↔ HelmLaw s ∧ OrderLaw s ∧ SlotLaw s ∧ QueueLaw s := by
  have hwait : ∀ b, (s.helm.requester.map portOfBridge = some (portOfBridge b)) ↔ s.helm.requester = some b := by
    intro b
    cases s.helm.requester <;> simp
  have hE : ¬(s.helm.requester.map portOfBridge = some .E) := by
    cases s.helm.requester <;> simp [portOfBridge_ne_E]
  constructor
  · intro ⟨hh, ho, hp⟩
    refine ⟨hh, ho, ⟨fun b => (hp (portOfBridge b)).1.trans (hwait b), ?_⟩, fun p => (hp p).2⟩
    simpa [hE] using (hp .E).1
  · intro ⟨hh, ho, ⟨hs, hs'⟩, hq⟩
    refine ⟨hh, ho, fun p => ⟨?_, hq p⟩⟩
    match p with
    | .L => exact (hs .L).trans (hwait .L).symm
    | .H => exact (hs .H).trans (hwait .H).symm
    | .E => simp [hs', hE]

/-! ## The ports -/

theorem fits_of_link {x y : PortRec} {w : Prop} (h : SameLink x y) (hx : x.Fits w) : y.Fits w := by
  obtain ⟨h1, h2, h3⟩ := h
  simpa only [PortRec.Fits, h1, h2, h3] using hx

theorem PortsFit.of_link {b : Option Bridge} (h : ∀ p, SameLink (s.port p) (t.port p)) (hs : PortsFit b s) : PortsFit b t :=
  fun p => fits_of_link (h p) (hs p)

/-- R171: a reply joins a queue that has room for it. -/
theorem push_fits {r : PortRec} {w : Prop} (h : r.Fits w) (hlen : r.replies.length ≤ 6)
    (hslot : r.slot.isSome → r.replies.length ≤ 5) (now : Nat) (x : Result) (body : List Byte) :
    (r.push now tag x body).Fits w := by
  obtain ⟨h1, -, -, h4⟩ := h
  refine ⟨h1, ?_, fun hs => ?_, ?_⟩
  · rw [PortRec.push_length]
    omega
  · rw [PortRec.push_length]
    have := hslot hs
    omega
  · refine iff_of_true ?_ (by simp [PortRec.push])
    simp only [PortRec.push, List.isEmpty_iff]
    split
    · rfl
    · exact h4.mpr ‹_›

theorem PortsFit.reply {b : Option Bridge} (h : PortsFit b s) (hlen : (s.port p).replies.length ≤ 6)
    (hslot : (s.port p).slot.isSome → (s.port p).replies.length ≤ 5) (x : Result) (body : List Byte) :
    PortsFit b (s.reply p tag x body) := by
  intro q
  rw [port_reply]
  split
  · subst q
    exact push_fits (h p) hlen hslot ..
  · exact h q

/-- R172, R173: while `b` waits, its port holds its claim, with room for the reply. -/
theorem slot_of_waiting {b : Bridge} (h : PortsFit (some b) s) :
    ∃ x, (s.port (portOfBridge b)).slot = some x ∧ (s.port (portOfBridge b)).replies.length ≤ 6 := by
  obtain ⟨h1, -, h3, -⟩ := h (portOfBridge b)
  have hs := h1.mpr rfl
  obtain ⟨x, hx⟩ := Option.isSome_iff_exists.mp hs
  exact ⟨x, hx, h3 hs⟩

/-- R9, R172: the claim in flight answered, no bridge waits. -/
theorem answerClaim_fits {b : Option Bridge} (h : PortsFit b s) (r : Result) : PortsFit none (answerClaim b r s) := by
  cases b with
  | none => exact h
  | some b =>
    obtain ⟨x, hx, hlen⟩ := slot_of_waiting h
    rw [answerClaim_held hx]
    intro q
    rw [State.freed, port_modPort]
    by_cases hq : q = portOfBridge b
    · subst q
      have hroom := (h (portOfBridge b)).2.2.2
      rw [if_pos rfl, port_reply, if_pos rfl]
      refine ⟨by simp, ?_, nofun, ?_⟩
      · rw [PortRec.push_length]
        omega
      · refine iff_of_true ?_ (by simp [PortRec.push])
        simp only [PortRec.push, List.isEmpty_iff]
        split
        · rfl
        · exact hroom.mpr ‹_›
    · rw [if_neg hq, port_reply, if_neg hq]
      obtain ⟨h1, h2, h3, h4⟩ := h q
      refine ⟨h1.trans (iff_of_false (fun hb => hq ?_) (by simp)), h2, h3, h4⟩
      simpa using hb.symm

/-- The answer to a claim leaves the helm, the order and the phase. -/
theorem answerClaim_records (b : Option Bridge) (r : Result) (s : State) :
    (answerClaim b r s).helm = s.helm ∧ (answerClaim b r s).order = s.order ∧ (answerClaim b r s).phase = s.phase := by
  simp

/-- R9: it puts one reply into a queue at most. -/
theorem answerClaim_length (b : Option Bridge) (r : Result) (s : State) (p : Port) :
    ((answerClaim b r s).port p).replies.length ≤ (s.port p).replies.length + 1 := by
  unfold answerClaim
  split
  · exact Nat.le_succ _
  · split
    · exact Nat.le_succ _
    · rw [port_modPort]
      split
      · subst p
        rw [port_reply, if_pos rfl]
        rw [PortRec.push_length]
      · rw [port_reply, if_neg ‹_›]
        exact Nat.le_succ _

/-! ## The helm record -/

theorem Helm.Fits.requester_none {h : Helm} {running : Bool} (hf : h.Fits running) (hst : h.state ≠ .QUERY) :
    h.requester = none := by
  obtain ⟨-, h2, -⟩ := hf
  simpa using mt h2.mp hst

theorem Helm.Fits.running {h : Helm} {running : Bool} (hf : h.Fits running) (hst : h.state ≠ .UNCLAIMED) : running = true := by
  by_contra hno
  exact hst (hf.2.2.2.2.2.2 (by simpa using hno))

/-- R3: the record after a change of holder. -/
theorem changeHolder_helm_fits {st : HelmState} {holder : Option Bridge} (hst : st ≠ .QUERY)
    (hholder : holder.isSome ↔ st = .HELD) (hrun : s.running = true) :
    (changeHolder st holder s).helm.Fits (changeHolder st holder s).running := by
  have hrun' : (changeHolder st holder s).running = true := by
    rw [running_of_phase (t := changeHolder st holder s) (s := s) rfl, hrun]
  refine ⟨?_, ?_, nofun, ?_, ?_, ?_, fun h => absurd hrun' (by simp [h])⟩
  · exact hholder.trans ⟨.inl, fun h => h.resolve_right hst⟩
  · exact iff_of_false (by simp [changeHolder, State.post]) hst
  · exact iff_of_false (by simp [changeHolder, State.post]) hst
  · simp [changeHolder, State.post]
  · simp only [changeHolder, State.post]
    split <;> simp_all

theorem link_changeHolder (st : HelmState) (holder : Option Bridge) (s : State) (p : Port) :
    SameLink (s.port p) ((changeHolder st holder s).port p) := link_post _ { s with helm := _ } p

/-- R20: the bounds of the demands do not depend on the state of the helm, which asks for 0 in UNCLAIMED. -/
theorem Order.Fits.of_state {o : Order} {a b : HelmState} (h : o.Fits a) (hb : b ≠ .UNCLAIMED) : o.Fits b := by
  obtain ⟨h1, h2, h3, h4, -⟩ := h
  exact ⟨h1, h2, h3, h4, fun h => absurd h hb⟩

theorem order_zero_fits (st : HelmState) (m : Mode) : ({ thrust := 0, turn := 0, mode := m } : Order).Fits st := by
  refine ⟨?_, ?_, ?_, ?_, fun _ => ⟨rfl, rfl⟩⟩ <;> simp

/-- R3: where no query is open, a bridge becomes holder, or the helm is left in HOLDING. -/
theorem CommandLaws.changeHolder {st : HelmState} {holder : Option Bridge} (h : CommandLaws s) (hrun : s.running = true)
    (hreq : s.helm.requester = none) (hst : st = .HELD ∨ st = .HOLDING) (hholder : holder.isSome ↔ st = .HELD) :
    CommandLaws (changeHolder st holder s) := by
  have hq : st ≠ .QUERY ∧ st ≠ .UNCLAIMED := by obtain rfl | rfl := hst <;> decide
  refine ⟨changeHolder_helm_fits hq.1 hholder hrun, h.order.of_state hq.2, ?_⟩
  exact (hreq ▸ h.ports : PortsFit none s).of_link (link_changeHolder _ _ _)

/-- R9: the query ends with the holder unchanged, and the claim is answered. -/
theorem CommandLaws.endQuery (h : CommandLaws s) (hst : s.helm.state = .QUERY) (r : Result) :
    CommandLaws (answerClaim s.helm.requester r (endQuery s)) := by
  obtain ⟨hhelm, horder, hphase⟩ := answerClaim_records s.helm.requester r (Machine.endQuery s)
  obtain ⟨h1, h2, h3, h4, h5, h6, h7⟩ := h.helm
  have hrun := h.helm.running (by rw [hst]; decide)
  have hports : PortsFit s.helm.requester (Machine.endQuery s) := h.ports
  refine ⟨?_, ?_, ?_⟩
  · rw [hhelm, running_of_phase (s := s) (by rw [hphase]; rfl), hrun]
    have hholder : s.helm.holder.isSome := h1.mpr (.inr hst)
    refine ⟨iff_of_true hholder (.inl rfl), iff_of_false nofun nofun, nofun, iff_of_false nofun nofun, h5,
      iff_of_false (fun hd => ?_) nofun, nofun⟩
    rw [h6.mp hd] at hst
    cases hst
  · rw [hhelm, horder]
    exact h.order.of_state nofun
  · rw [hhelm]
    exact answerClaim_fits hports r

/-- R10, R13, R15: the query ends in favour of the requester. -/
theorem CommandLaws.grantRequester (h : CommandLaws s) (hst : s.helm.state = .QUERY) : CommandLaws (grantRequester s) := by
  have hsome : s.helm.requester.isSome := h.helm.2.1.mpr hst
  have hrun := h.helm.running (by rw [hst]; decide)
  obtain ⟨hhelm, horder, hphase⟩ := answerClaim_records s.helm.requester .GRANTED (Machine.changeHolder .HELD s.helm.requester s)
  refine ⟨?_, ?_, ?_⟩
  · rw [Machine.grantRequester, hhelm, running_of_phase (s := Machine.changeHolder .HELD s.helm.requester s) (by rw [hphase])]
    exact changeHolder_helm_fits (by decide) (iff_of_true hsome rfl) hrun
  · rw [Machine.grantRequester, hhelm, horder]
    exact h.order.of_state nofun
  · rw [Machine.grantRequester, hhelm]
    exact answerClaim_fits (h.ports.of_link (link_changeHolder _ _ _)) _

/-- A change that leaves the links keeps the laws. -/
theorem CommandLaws.of_links (h : CommandLaws s) (hl : SameLinks s t) : CommandLaws t := by
  obtain ⟨hh, ho, hphase, hp⟩ := hl
  refine ⟨?_, ?_, ?_⟩
  · rw [hh, running_of_phase hphase]
    exact h.helm
  · rw [hh, ho]
    exact h.order
  · rw [hh]
    exact h.ports.of_link hp

theorem CommandLaws.reply (h : CommandLaws s) (hlen : (s.port p).replies.length ≤ 6)
    (hslot : (s.port p).slot.isSome → (s.port p).replies.length ≤ 5) {x : Result} {body : List Byte} :
    CommandLaws (s.reply p tag x body) := ⟨h.helm, h.order, h.ports.reply hlen hslot x body⟩

/-- R17. -/
theorem CommandLaws.notice (h : CommandLaws s) (p : Port) : CommandLaws (holderNotice p s) := by
  by_cases hh : ∃ b, bridgeOf p = some b ∧ s.helm.holder = some b
  · obtain ⟨b, hb, hh⟩ := hh
    rw [notice_holder hb hh]
    obtain ⟨h1, h2, h3, h4, h5, h6, h7⟩ := h.helm
    exact ⟨⟨h1, h2, h3, h4, iff_of_true rfl (by simp [State.heard, hh]), h6, h7⟩, h.order, h.ports⟩
  · rwa [notice_other fun b hb hno => hh ⟨b, hb, hno⟩]

/-! ## What a port makes of a decision (R172) -/

/-- R172, items 5 and 6: the reply is composed, or the claim is held. -/
def decided (p : Port) (tag code : Byte) : State × Decision → State
  | (s, .answered r body) => s.reply p tag r body
  | (s, .held) => s.modPort p fun q => { q with slot := some { code := code, tag := tag } }

/-- R172: what a request finds at its port: room for two replies, and no claim in flight but for a CANCEL. -/
abbrev Admits (p : Port) (code : Byte) (s : State) : Prop :=
  (s.port p).replies.length ≤ 5 ∧ ((s.port p).slot = none ∨ code = cancelCode)

/-- Whatever a request is decided, the port leaves the laws. -/
def Act.KeepsLaws (p : Port) (tag code : Byte) (f : Act) : Prop :=
  ∀ s, CommandLaws s → Admits p code s → CommandLaws (decided p tag code (f s))

theorem handleFrame_decided (h : Admits p code s) (f : Act) :
    handleFrame p tag code (some f) s = decided p tag code (f (holderNotice p s)) := by
  obtain ⟨hlen, hslot⟩ := h
  have hs : ¬(((holderNotice p s).port p).slot.isSome ∧ code ≠ cancelCode) := by
    rw [port_notice]
    rintro ⟨hsome, hcode⟩
    simp_all
  rw [handleFrame, if_neg (Nat.not_lt.mpr hlen)]
  simp only [if_neg hs]
  rcases f (holderNotice p s) with ⟨t, r | -⟩ <;> rfl

theorem CommandLaws.busy (h : CommandLaws s) (p : Port) (n : Nat) :
    CommandLaws (s.setPort p { s.port p with busy := n }) := by
  refine h.of_links ⟨rfl, rfl, rfl, fun q => ?_⟩
  rw [port_setPort]
  split
  · subst q
    exact ⟨rfl, rfl, rfl⟩
  · exact .refl _

theorem CommandLaws.handleFrame (h : CommandLaws s) {act : Option Act} (hact : ∀ f, act = some f → f.KeepsLaws p tag code) :
    CommandLaws (handleFrame p tag code act s) := by
  by_cases hlen : 5 < (s.port p).replies.length
  · rw [handleFrame_discarded hlen]
    exact (h.busy p _).notice p
  · have hlen := Nat.not_lt.mp hlen
    by_cases hslot : (s.port p).slot ≠ none ∧ code ≠ cancelCode
    · rw [handleFrame_busy hlen hslot.1 hslot.2]
      have hbusy := ((h.notice p).busy p (min 65535 ((s.port p).busy + 1)))
      rw [port_notice] at hbusy
      refine hbusy.reply ?_ fun _ => ?_
      all_goals
        rw [port_setPort, if_pos rfl]
        dsimp only
        omega
    · have hadmits : Admits p code s := ⟨hlen, by tauto⟩
      cases act with
      | none =>
        rw [handleFrame_badRequest hlen hadmits.2]
        refine (h.notice p).reply ?_ fun _ => ?_
        all_goals
          rw [port_notice]
          omega
      | some f =>
        rw [handleFrame_decided hadmits]
        exact hact f rfl _ (h.notice p) (by rwa [Admits, port_notice])

/-! ## The requests -/

/-- An act that answers, with room for the reply. -/
theorem laws_answered {r : Result} {body : List Byte} (hf : f s = (t, .answered r body)) (ht : CommandLaws t)
    (hlen : (t.port p).replies.length ≤ 6) (hslot : (t.port p).slot.isSome → (t.port p).replies.length ≤ 5) :
    CommandLaws (decided p tag code (f s)) := by
  rw [hf]
  exact ht.reply hlen hslot

/-- An act that answers and leaves the output queue of its port. -/
theorem laws_kept {r : Result} {body : List Byte} (hf : f s = (t, .answered r body)) (ht : CommandLaws t)
    (hadm : Admits p code s) (hq : (t.port p).replies = (s.port p).replies) : CommandLaws (decided p tag code (f s)) := by
  have hlen := hadm.1
  rw [← hq] at hlen
  exact laws_answered hf ht (hlen.trans (by decide)) fun _ => hlen

/-- An act that answers and ends a query. -/
theorem laws_ended {r : Result} {body : List Byte} (hf : f s = (t, .answered r body)) (ht : CommandLaws t)
    (hadm : Admits p code s) (hreq : t.helm.requester = none)
    (hq : (t.port p).replies.length ≤ (s.port p).replies.length + 1) : CommandLaws (decided p tag code (f s)) := by
  obtain ⟨hlen, -⟩ := hadm
  refine laws_answered hf ht (by omega) fun hs => ?_
  have hno := (ht.ports p).1.mp hs
  simp [hreq] at hno

theorem laws_answer (r : Result) (h : CommandLaws s) (hadm : Admits p code s) :
    CommandLaws (decided p tag code (answer r s)) := laws_kept (f := answer r) rfl h hadm rfl

theorem keeps_of_tidies (hf : ∀ s, f.Tidies s) : f.KeepsLaws p tag code := by
  intro s h hadm
  obtain ⟨t, r, body, heq, ht⟩ := hf s
  exact laws_kept heq (h.of_links ht.links) hadm (ht.links.2.2.2 p).2.1

theorem keeps_bridgeInRunning {g : Bridge → Act}
    (hg : ∀ b s, bridgeOf p = some b → s.running = true → CommandLaws s → Admits p code s →
      CommandLaws (decided p tag code (g b s))) : (bridgeInRunning p g).KeepsLaws p tag code := by
  intro s h hadm
  unfold bridgeInRunning
  split
  · exact laws_answer _ h hadm
  · rename_i b hb
    split
    · rename_i hrun
      exact hg b s hb hrun h hadm
    · exact laws_answer _ h hadm

theorem laws_orElse {α : Type} {x : Option α} {r : Result} {g : α → Act} (h : CommandLaws s) (hadm : Admits p code s)
    (hg : ∀ a, CommandLaws (decided p tag code (g a s))) : CommandLaws (decided p tag code (orElse x r g s)) := by
  cases x with
  | none => exact laws_answer _ h hadm
  | some a => exact hg a

/-- R6, R8, R16: outside QUERY a bridge becomes holder. -/
theorem laws_grantTo (b : Bridge) (h : CommandLaws s) (hrun : s.running = true) (hreq : s.helm.requester = none)
    (hadm : Admits p code s) : CommandLaws (decided p tag code (grantTo b s)) :=
  laws_kept (f := grantTo b) rfl (h.changeHolder hrun hreq (.inl rfl) (by simp)) hadm (link_changeHolder _ _ s p).2.1

theorem Helm.Fits.unheld {h : Helm} {running : Bool} (hf : h.Fits running) (hh : h.holder = none) : h.state ≠ .QUERY := by
  intro hq
  have := hf.1.mpr (.inr hq)
  simp [hh] at this

/-- R8: the query opens, and the claim stays in its slot. -/
theorem laws_openQuery {b holder : Bridge} (hb : bridgeOf p = some b) (hne : holder ≠ b) (h : CommandLaws s)
    (hrun : s.running = true) (hh : s.helm.holder = some holder) (hst : s.helm.state ≠ .QUERY) (hadm : Admits p code s) :
    CommandLaws (decided p tag code (openQuery holder b s)) := by
  obtain ⟨h1, h2, h3, h4, h5, h6, h7⟩ := h.helm
  obtain rfl := port_of_bridgeOf hb
  have hheld : s.helm.state = .HELD := (h1.mp (by simp [hh])).resolve_right hst
  have hreq := h.helm.requester_none hst
  refine ⟨⟨iff_of_true (by simp [decided, openQuery, State.postTo, State.modPort, State.setPort, hh]) (.inr rfl),
    iff_of_true rfl rfl, fun _ => ?_, iff_of_true rfl rfl, h5, iff_of_false (fun hd => ?_) nofun, fun hno => ?_⟩,
    h.order.of_state nofun, fun q => ?_⟩
  · intro heq
    exact hne (Option.some.inj (hh.symm.trans heq.symm))
  · rw [h6.mp hd] at hheld
    cases hheld
  · have : s.running = false := hno
    simp [hrun] at this
  · have hlink : SameLink (s.port q) ((State.postTo (portOfBridge holder) .HELM_QUERY
        { s with helm := { s.helm with state := .QUERY, requester := some b, queryDeadline := some (s.after 10000) } }).port
        q) := by
      rw [port_postTo]
      split <;> exact ⟨rfl, rfl, rfl⟩
    have hfits := fits_of_link hlink (h.ports q)
    change PortRec.Fits (some (portOfBridge b) = some q) _
    simp only [decided, openQuery, port_modPort]
    split
    · subst q
      obtain ⟨-, f2, -, f4⟩ := hfits
      refine ⟨iff_of_true rfl rfl, f2, fun _ => ?_, f4⟩
      rw [hlink.2.1]
      exact hadm.1.trans (by decide)
    · rename_i hq
      obtain ⟨f1, f2, f3, f4⟩ := hfits
      refine ⟨?_, f2, f3, f4⟩
      rw [f1, hreq]
      exact iff_of_false nofun fun he => hq (Option.some.inj he).symm

theorem keeps_claim : (decideClaimHelm p).KeepsLaws p tag code := by
  refine keeps_bridgeInRunning fun b s hb hrun h hadm => ?_
  split
  · rename_i hh
    exact laws_grantTo b h hrun (h.helm.requester_none (h.helm.unheld hh)) hadm
  · rename_i x hh
    split
    · exact laws_answer _ h hadm
    · rename_i hne
      split
      · exact laws_answer _ h hadm
      · rename_i hst
        unfold claimAgainst
        split
        · exact laws_grantTo b h hrun (h.helm.requester_none hst) hadm
        · exact laws_answer _ h hadm
        · exact laws_openQuery hb hne h hrun hh hst hadm

/-- The answer to a claim puts one reply into a queue at most, whatever else happens to the links. -/
theorem length_answerClaim (b : Option Bridge) (r : Result) (h : ∀ p, SameLink (s.port p) (t.port p)) (p : Port) :
    ((answerClaim b r t).port p).replies.length ≤ (s.port p).replies.length + 1 := by
  rw [← (h p).2.1]
  exact answerClaim_length b r t p

theorem length_grantRequester (s : State) (p : Port) :
    ((grantRequester s).port p).replies.length ≤ (s.port p).replies.length + 1 :=
  length_answerClaim _ _ (link_changeHolder _ _ _) p

theorem requester_grantRequester (s : State) : (grantRequester s).helm.requester = none := by
  rw [grantRequester, (answerClaim_records ..).1]
  rfl

theorem requester_endQuery (r : Result) (s : State) : (answerClaim s.helm.requester r (endQuery s)).helm.requester = none := by
  rw [(answerClaim_records ..).1]
  rfl

/-- R9 to R11: a query ended with the holder unchanged. -/
theorem laws_endQuery (r : Result) (h : CommandLaws s) (hst : s.helm.state = .QUERY) (hadm : Admits p code s)
    (hf : f s = (answerClaim s.helm.requester r (endQuery s), .answered .DONE [])) :
    CommandLaws (decided p tag code (f s)) :=
  laws_ended hf (h.endQuery hst r) hadm (requester_endQuery r s) (length_answerClaim _ _ (fun _ => .refl _) p)

theorem laws_grantRequester (h : CommandLaws s) (hst : s.helm.state = .QUERY) (hadm : Admits p code s)
    (hf : f s = (grantRequester s, .answered .DONE [])) : CommandLaws (decided p tag code (f s)) :=
  laws_ended hf (h.grantRequester hst) hadm (requester_grantRequester s) (length_grantRequester s p)

theorem keeps_answer (choice : Byte) : (decideAnswerHelm p choice).KeepsLaws p tag code := by
  refine keeps_bridgeInRunning fun b s hb hrun h hadm => laws_orElse h hadm fun accept => ?_
  split
  · rename_i hq
    cases accept
    · exact laws_endQuery (f := doneWith declineQuery) .DECLINED h hq.1 hadm rfl
    · exact laws_grantRequester (f := doneWith grantRequester) h hq.1 hadm rfl
  · exact laws_answer _ h hadm

theorem keeps_cancel : (decideCancel p).KeepsLaws p tag code := by
  refine keeps_bridgeInRunning fun b s hb hrun h hadm => ?_
  split
  · rename_i hq
    exact laws_endQuery (f := doneWith cancelQuery) .CANCELLED h hq.1 hadm rfl
  · exact laws_answer _ h hadm

/-- R15: a release outside QUERY leaves the helm UNCLAIMED, with the demands 0. -/
theorem CommandLaws.release (h : CommandLaws s) (hrun : s.running = true) (hst : s.helm.state ≠ .QUERY) :
    CommandLaws (clearDemands (Machine.changeHolder .UNCLAIMED none s)) :=
  ⟨changeHolder_helm_fits (by decide) (by simp) hrun, order_zero_fits _ _,
    (h.helm.requester_none hst ▸ h.ports : PortsFit none s).of_link (link_changeHolder .UNCLAIMED none s)⟩

theorem keeps_release : (decideReleaseHelm p).KeepsLaws p tag code := by
  refine keeps_bridgeInRunning fun b s hb hrun h hadm => ?_
  split
  · split
    · rename_i hst
      exact laws_grantRequester (f := doneWith grantRequester) h hst hadm rfl
    · rename_i hst
      exact laws_kept (f := doneWith fun s => clearDemands (changeHolder .UNCLAIMED none s)) rfl (h.release hrun hst) hadm
        (link_changeHolder .UNCLAIMED none s p).2.1
  · exact laws_answer _ h hadm

theorem links_seeTake (b : Bridge) (line : Bool) (s : State) : SameLinks s (s.seeTake b line) := by
  cases b <;> exact ⟨rfl, rfl, rfl, fun _ => .refl _⟩

theorem link_postTo (q : Port) (k : EventKind) (s : State) (p : Port) : SameLink (s.port p) ((s.postTo q k).port p) := by
  rw [port_postTo]
  split <;> exact ⟨rfl, rfl, rfl⟩

theorem laws_takeFrom (holder b : Bridge) (h : CommandLaws s) (hrun : s.running = true) (hst : s.helm.state ≠ .QUERY)
    (hadm : Admits p code s) : CommandLaws (decided p tag code (takeFrom holder b s)) := by
  have hcount : CommandLaws { s with helm := { s.helm with takeOvers := bump16 s.helm.takeOvers } } :=
    ⟨h.helm, h.order, h.ports⟩
  have hheld := hcount.changeHolder (holder := some b) hrun (h.helm.requester_none hst) (.inl rfl) (by simp)
  refine laws_kept (f := takeFrom holder b) rfl (hheld.of_links ⟨rfl, rfl, rfl, link_postTo _ _ _⟩) hadm ?_
  exact ((link_changeHolder _ _ _ p).trans (link_postTo _ _ _ p)).2.1

theorem keeps_take (line : Bool) : (decideTakeHelm p line).KeepsLaws p tag code := by
  refine keeps_bridgeInRunning fun b s hb hrun h hadm => ?_
  split
  · rename_i hh
    exact laws_grantTo b h hrun (h.helm.requester_none (h.helm.unheld hh)) hadm
  · rename_i x hh
    split
    · exact laws_answer _ h hadm
    · split
      · exact laws_answer _ h hadm
      · rename_i hst
        have hlinks := links_seeTake b line s
        have hsee := h.of_links hlinks
        have hadm' : Admits p code (s.seeTake b line) := by
          rw [Admits, (hlinks.2.2.2 p).1, (hlinks.2.2.2 p).2.1]
          exact hadm
        split
        · exact laws_takeFrom x b hsee ((running_of_phase hlinks.2.2.1).trans hrun) (by rwa [hlinks.1]) hadm'
        · exact laws_answer _ hsee hadm'

theorem CommandLaws.setPolicy (h : CommandLaws s) (b : Bridge) (y : YieldPolicy) : CommandLaws (setPolicy b y s) := by
  obtain ⟨hh, ho, hp⟩ := h
  cases b <;> exact ⟨hh, ho, hp⟩

theorem clampDemand_bounds (v : Half) : -1000 ≤ clampDemand v ∧ clampDemand v ≤ 1000 := by
  unfold clampDemand clampInt
  omega

theorem keeps_setOrder (thrust turn : Half) (mode : Byte) : (decideSetOrder p thrust turn mode).KeepsLaws p tag code := by
  refine keeps_bridgeInRunning fun b s hb hrun h hadm => laws_orElse h hadm fun m => ?_
  split
  · rename_i hh
    refine laws_kept (f := writeOrder thrust turn m) rfl ⟨h.helm, ?_, h.ports⟩ hadm rfl
    obtain ⟨h1, h2⟩ := clampDemand_bounds thrust
    obtain ⟨h3, h4⟩ := clampDemand_bounds turn
    refine ⟨h1, h2, h3, h4, fun hst => ?_⟩
    have hheld := h.helm.1.mp (by simp [hh])
    have hst : s.helm.state = .UNCLAIMED := hst
    simp [hst] at hheld
  · exact laws_answer _ h hadm

/-- R22, R23, R180: the POR record of the helm fits in either phase. -/
theorem helm_por_fits (running : Bool) : Helm.por.Fits running :=
  ⟨iff_of_false nofun (by decide), iff_of_false nofun (by decide), nofun, iff_of_false nofun (by decide),
    iff_of_false nofun nofun, iff_of_false nofun (by decide), fun _ => rfl⟩

theorem keeps_commitConfig (lines : PerStation Bool) : (decideCommitConfig lines).KeepsLaws p tag code := by
  intro s h hadm
  unfold decideCommitConfig inConfiguring
  split
  · exact laws_answer _ h hadm
  · rename_i hrun
    have hst : s.helm.state ≠ .QUERY := by
      rw [h.helm.2.2.2.2.2.2 (by simpa using hrun)]
      decide
    have hports : PortsFit none s := h.helm.requester_none hst ▸ h.ports
    dsimp only
    split
    · exact laws_kept (f := commitFails _ _) rfl ⟨h.helm, h.order, h.ports⟩ hadm rfl
    · have hblocks : CommandLaws (s.commitBlocks lines) := ⟨helm_por_fits _, order_zero_fits _ _, hports⟩
      refine laws_kept (f := doneWith (State.commit lines)) rfl ?_ hadm ?_
      · exact (hblocks.of_links (Tidy.post ..).links).of_links (Tidy.postIf ..).links
      · exact (SameLink.trans (link_post .PHASE_CHANGED (s.commitBlocks lines) p) (link_postIf _ _ _ p)).2.1

theorem helm_reconfigure_fits (running : Bool) (h : Helm) : h.reconfigure.Fits running := helm_por_fits running

theorem link_reconfigureBlocks (s : State) (q : Port) : SameLink (s.port q) (s.reconfigureBlocks.port q) := by
  have h := link_postIf (!s.lines.a.heard.isEmpty || !s.lines.b.heard.isEmpty) .NODE_CHANGED
    { s with lines := { a := s.lines.a.reconfigure s.now, b := s.lines.b.reconfigure s.now } } q
  simpa only [State.port, State.reconfigureBlocks, State.reconfigureLines] using h

/-- R23: the claim in flight is answered after the helm has become UNCLAIMED. -/
theorem CommandLaws.reconfigure (h : CommandLaws s) : CommandLaws s.reconfigure := by
  have hports : PortsFit s.helm.requester s.reconfigureBlocks := h.ports.of_link (link_reconfigureBlocks s)
  have hposts : ∀ u : State, SameLinks u ((((((u.post .PHASE_CHANGED).post .HELM_CHANGED).postIf s.enginesChange
      .ENGINE_CHANGED).postIf s.ruddersChange .RUDDER_CHANGED).postIf s.couplingsChange .COUPLING_CHANGED).postIf
      (decide (s.ceilings ≠ { c := 1000, k := 1000 })) .CEILING_CHANGED) := fun u =>
    ((((((Tidy.post _ u).trans (.post _ _)).trans (.postIf _ _ _)).trans (.postIf _ _ _)).trans (.postIf _ _ _)).trans
      (.postIf _ _ _)).links
  obtain ⟨hh, ho, -, hl⟩ := hposts s.reconfigureBlocks
  unfold State.reconfigure
  generalize State.postIf (decide (s.ceilings ≠ { c := 1000, k := 1000 })) .CEILING_CHANGED _ = v at hh ho hl
  obtain ⟨hhelm, horder, -⟩ := answerClaim_records s.helm.requester .BAD_PHASE v
  refine ⟨?_, ?_, ?_⟩
  · rw [hhelm, hh]
    exact helm_reconfigure_fits _ _
  · rw [horder, ho]
    exact order_zero_fits _ _
  · rw [hhelm, hh]
    exact answerClaim_fits (hports.of_link hl) _

theorem length_reconfigure (s : State) (p : Port) :
    (s.reconfigure.port p).replies.length ≤ (s.port p).replies.length + 1 := by
  refine length_answerClaim _ _ (fun q => ?_) p
  exact ((((((link_reconfigureBlocks s q).trans (link_post _ _ q)).trans (link_post _ _ q)).trans (link_postIf _ _ _ q)).trans
    (link_postIf _ _ _ q)).trans (link_postIf _ _ _ q)).trans (link_postIf _ _ _ q)

theorem requester_reconfigure (s : State) : s.reconfigure.helm.requester = none := by
  rw [State.reconfigure, (answerClaim_records ..).1]
  simp [State.reconfigureBlocks, Helm.reconfigure, Helm.por]

theorem keeps_reconfigure : (decideReconfigure p).KeepsLaws p tag code := by
  refine keeps_bridgeInRunning fun b s hb hrun h hadm => ?_
  split
  · dsimp only
    split
    · exact laws_ended (f := doneWith State.reconfigure) rfl h.reconfigure hadm (requester_reconfigure s) (length_reconfigure s p)
    · exact laws_answer _ h hadm
  · exact laws_answer _ h hadm

theorem keeps_of_request {c : Instr} {r : Request} (hc : requestParts c = some r) : r.act.KeepsLaws r.port r.tag r.code := by
  cases hlink : linkRequest c with
  | false => exact keeps_of_tidies (tidies_of_request hc hlink)
  | true =>
    cases c
    case claimHelm => cases hc; exact keeps_claim
    case answerHelm => cases hc; exact keeps_answer _
    case cancel => cases hc; exact keeps_cancel
    case releaseHelm => cases hc; exact keeps_release
    case takeHelm => cases hc; exact keeps_take _
    case setYieldPolicy =>
      cases hc
      refine keeps_bridgeInRunning fun b s _ _ h hadm => laws_orElse h hadm fun y => ?_
      exact laws_kept (f := doneWith (setPolicy b y)) rfl (h.setPolicy b y) hadm (by cases b <;> rfl)
    case setOrder => cases hc; exact keeps_setOrder _ _ _
    case commitConfig => cases hc; exact keeps_commitConfig _
    case reconfigure => cases hc; exact keeps_reconfigure
    all_goals cases hlink

/-! ## Frames and bytes -/

theorem CommandLaws.setPort (h : CommandLaws s) {r : PortRec} (hl : SameLink (s.port p) r) : CommandLaws (s.setPort p r) := by
  refine h.of_links ⟨rfl, rfl, rfl, fun q => ?_⟩
  rw [port_setPort]
  split
  · subst q
    exact hl
  · exact .refl _

theorem CommandLaws.receiveFrame (h : CommandLaws s) (f : RequestFrame) (lv : LineLevels) :
    CommandLaws (receiveFrame p f lv s) := by
  unfold Machine.receiveFrame
  split
  · exact h.setPort ⟨rfl, rfl, rfl⟩
  · split
    · refine h.handleFrame fun act hact => ?_
      obtain ⟨c, hc⟩ := requestParts_of_route hact
      exact keeps_of_request hc
    · exact h.setPort ⟨rfl, rfl, rfl⟩

/-- R170: a byte that comes in touches the receiver and the counters of its port. -/
theorem link_takeByte (b : Byte) (framing : Bool) (n : Nat) (r : PortRec) :
    SameLink r { (r.takeByte b framing).1 with lastByte := n } := by
  unfold PortRec.takeByte
  repeat' split
  all_goals exact ⟨rfl, rfl, rfl⟩

theorem CommandLaws.byteEnds (h : CommandLaws s) (lv : LineLevels) : CommandLaws (byteEnds p lv s) := by
  unfold Machine.byteEnds
  split
  · exact h
  · rename_i x _
    have hin : CommandLaws (s.modPort p fun r => { r with incoming := none }) := h.setPort ⟨rfl, rfl, rfl⟩
    dsimp only
    split
    · unfold receiveByteAt
      have hbyte := fun n => hin.setPort (p := p) (link_takeByte (receiveByte x.samples).1 (receiveByte x.samples).2 n _)
      dsimp only
      split
      · exact hbyte _
      · exact (hbyte _).receiveFrame ..
    · exact hin

/-- R170, item 4. -/
theorem link_gapFirst (now : Nat) (x : Option Incoming) (r : PortRec) : SameLink r { r.gapFirst now with incoming := x } := by
  unfold PortRec.gapFirst
  split <;> exact ⟨rfl, rfl, rfl⟩

theorem CommandLaws.portEdge (h : CommandLaws s) (x : ByteSamples) (lv : LineLevels) : CommandLaws (portEdge p x lv s) := by
  have hfree : CommandLaws (freePort p s) := by
    unfold freePort
    split
    · exact h
    · split
      · exact h.byteEnds _
      · exact h
  unfold Machine.portEdge
  dsimp only
  split
  · exact hfree.setPort (link_gapFirst _ _ _)
  · exact hfree

/-! ## The other commands -/

/-- R171: the oldest reply leaves the queue, and the next follows. -/
theorem sentOne_fits {r : PortRec} {w : Prop} (h : r.Fits w) (n : Nat) : (r.sentOne n).Fits w := by
  obtain ⟨h1, h2, h3, -⟩ := h
  unfold PortRec.sentOne
  split
  · exact ⟨h1, Nat.zero_le _, fun _ => Nat.zero_le _, by simp⟩
  · rename_i x rest heq
    have hlen : (x :: rest).length ≤ r.replies.length := by
      rw [← heq, List.length_drop]
      omega
    exact ⟨h1, hlen.trans h2, fun hs => hlen.trans (h3 hs), by simp⟩

theorem CommandLaws.holderSilent (h : CommandLaws s) (hd : s.helm.silenceDeadline.isSome) : CommandLaws (holderSilent s) := by
  unfold Machine.holderSilent
  split
  · exact h.grantRequester ‹_›
  · rename_i hst
    have hheld : s.helm.state = .HELD := (h.helm.1.mp (h.helm.2.2.2.2.1.mp hd)).resolve_right hst
    have hrun := h.helm.running (by rw [hheld]; decide)
    exact (h.changeHolder hrun (h.helm.requester_none hst) (.inr rfl) (by simp)).of_links (Tidy.post ..).links

/-- R19: the thrust demand decays toward 0. -/
theorem decay_bounds {v : Int} (h1 : -1000 ≤ v) (h2 : v ≤ 1000) : -1000 ≤ decay v ∧ decay v ≤ 1000 := by
  unfold decay
  split
  · omega
  · obtain h | h | h := lt_trichotomy v 0
    · rw [Int.sign_eq_neg_one_of_neg h]
      omega
    · omega
    · rw [Int.sign_eq_one_of_pos h]
      omega

theorem CommandLaws.decayStep (h : CommandLaws s) (hd : s.helm.decayTimer.isSome) (n : Nat) : CommandLaws (decayStep n s) := by
  obtain ⟨h1, h2, h3, h4, h5, h6, h7⟩ := h.helm
  obtain ⟨o1, o2, o3, o4, o5⟩ := h.order
  have hst := h6.mp hd
  refine ⟨⟨h1, h2, h3, h4, h5, iff_of_true rfl hst, h7⟩, ?_, h.ports⟩
  obtain ⟨d1, d2⟩ := decay_bounds o1 o2
  refine ⟨d1, d2, o3, o4, fun hun => ?_⟩
  have hun : s.helm.state = .UNCLAIMED := hun
  simp [hst] at hun

theorem fits_port_por (rate : Rate) : (PortRec.por rate).Fits (none = some p) := by
  refine ⟨?_, ?_, ?_, ?_⟩ <;> simp [PortRec.por]

theorem commandLaws_por (now choices : Nat) (lv : LineLevels) (straps : Straps) (pending : List Instr) :
    CommandLaws (State.por now choices lv straps pending) := by
  refine ⟨helm_por_fits _, order_zero_fits _ _, fun p => ?_⟩
  match p with
  | .L => exact fits_port_por _
  | .H => exact fits_port_por _
  | .E => exact fits_port_por _

theorem commandLaws_beginReset (s : State) : CommandLaws s.beginReset := by
  refine ⟨helm_por_fits _, order_zero_fits _ _, fun p => ?_⟩
  match p with
  | .L => exact fits_of_link ⟨rfl, rfl, rfl⟩ (fits_port_por (rateOf s.straps.rateL))
  | .H => exact fits_of_link ⟨rfl, rfl, rfl⟩ (fits_port_por (rateOf s.straps.rateH))
  | .E => exact fits_of_link ⟨rfl, rfl, rfl⟩ (fits_port_por (rateOf s.straps.rateE))

/-- Whatever state is reached, the laws hold in it. -/
abbrev ToLaws (_ t : State) : Prop := CommandLaws t

theorem laws_live {g : State → State} (h : CommandLaws s) (hg : CommandLaws (g s)) : Reaches ToLaws (live s g) s :=
  reaches_live h fun _ => hg

theorem laws_onExpiry {d : Option Nat} {g : Nat → State → State} (h : CommandLaws s)
    (hg : ∀ n, d = some n → CommandLaws (s.reach n) → CommandLaws (g n (s.reach n))) : CommandLaws (onExpiry d g s) := by
  cases d with
  | none => exact h
  | some n => exact hg n rfl (h.of_links (Tidy.reach n s).links)

theorem laws_of_linkEvent {c : Instr} (hc : ((requestParts c).isSome || ownEvent c) = false) (h : CommandLaws s) :
    Reaches ToLaws (exec c s) s := by
  cases c
  case queryDeadlineExpiry =>
    rw [exec, execQueryDeadlineExpiry]
    exact laws_live h (laws_onExpiry h fun n hn hr => hr.endQuery (h.helm.2.2.2.1.mp (by simp [hn])) .TIMED_OUT)
  case silenceDeadlineExpiry =>
    rw [exec, execSilenceDeadlineExpiry]
    exact laws_live h (laws_onExpiry h fun n hn hr => hr.holderSilent (by simp [State.reach, hn]))
  case decayTimerExpiry =>
    rw [exec, execDecayTimerExpiry]
    exact laws_live h (laws_onExpiry h fun n hn hr => hr.decayStep (by simp [State.reach, hn]) n)
  case passResultTakenEngines =>
    rw [exec, execPassResultTakenEngines]
    refine laws_live h ?_
    split
    · exact h
    · exact ⟨h.helm, h.order, h.ports⟩
  case requestFrameReceived =>
    rw [exec, execRequestFrameReceived]
    exact laws_live h (h.receiveFrame ..)
  case portByteReceived p event lv =>
    rw [exec, execPortByteReceived]
    refine laws_live h ?_
    cases event with
    | edge x => exact h.portEdge ..
    | ends => exact laws_onExpiry h fun _ _ hr => hr.byteEnds _
  case replySent p =>
    rw [exec, execReplySent]
    refine laws_live h (laws_onExpiry h fun n _ hr => ⟨hr.helm, hr.order, fun q => ?_⟩)
    rw [port_modPort]
    split
    · subst q
      exact sentOne_fits (hr.ports p) n
    · exact hr.ports q
  case fullReset => exact ⟨_, rfl, commandLaws_beginReset s⟩
  case resetEnd straps =>
    rw [exec, execResetEnd]
    cases hreset : s.inReset with
    | true => exact ⟨_, rfl, commandLaws_por ..⟩
    | false => exact ⟨_, rfl, h⟩
  all_goals cases hc

theorem laws_of_exec (c : Instr) (h : CommandLaws s) : Reaches ToLaws (exec c s) s := by
  cases hr : requestParts c with
  | some r =>
    rw [exec_request hr, request]
    exact laws_live h (h.handleFrame fun f hf => by cases hf; exact keeps_of_request hr)
  | none =>
    cases ho : ownEvent c with
    | true => exact (tidy_of_ownEvent ho s).mono fun _ ht => h.of_links ht.links
    | false => exact laws_of_linkEvent (by rw [hr, ho]; rfl) h

theorem step_commandLaws (hstep : step s = .next t) (h : CommandLaws s) : CommandLaws t := by
  cases hp : s.pending with
  | nil =>
    obtain rfl := next_inj (step_nil hp) hstep
    exact h.of_links (links_idle s)
  | cons c rest =>
    rw [step_cons hp] at hstep
    obtain ⟨u, hu, hlaws⟩ := laws_of_exec c (s := { s with pending := rest }) ⟨h.helm, h.order, h.ports⟩
    obtain rfl := next_inj hu hstep
    exact hlaws

/-- Settles O56: a command that is no link command leaves the links; the others keep the laws one by one, with room for the
answer to a claim in flight beside the reply to the request that ends it. -/
theorem stepKeepsCommandLaws : Obligations.StepKeepsCommandLaws := fun s t hh ho hs hq hstep =>
  (commandLaws_iff t).mp (step_commandLaws hstep ((commandLaws_iff s).mpr ⟨hh, ho, hs, hq⟩))

end Sys2Proof.Machine
end

section
/-! SUPPORT. The statements about the machine as a whole: the front command, full reset, posts, attention and replies. -/

namespace Sys2Proof.Machine

open Sys2Proof

variable {s t : State}

/-! ## Steps and laws at reset -/

/-- Settles O1: the queue is matched first. -/
theorem stepTakesFrontCommand : Obligations.StepTakesFrontCommand := fun _ _ _ => step_cons

/-- Settles O55: full reset gives every block its POR values. -/
theorem lawsHoldAtReset : Obligations.LawsHoldAtReset := by
  have hblocks : PorBlocks State.reset := porBlocks_por
  obtain ⟨hh, ho, hs, hq⟩ := (commandLaws_iff State.reset).mp (commandLaws_por ..)
  obtain ⟨hc, hceil⟩ := hblocks.couplings
  obtain ⟨ha, hm, hf⟩ := hblocks.fuel
  exact ⟨hh, ho, hs, hq, hblocks.engines, hblocks.rudders, hc, hceil, ha, hm, hf, hblocks.nodes⟩

/-! ## Full reset (R187) -/

/-- A command other than the two of full reset acts on a live part alone. -/
theorem exec_live {c : Instr} (hf : c ≠ .fullReset) (hr : ∀ straps, c ≠ .resetEnd straps) (s : State) :
    ∃ f, exec c s = live s f := by
  cases c
  case fullReset => exact absurd rfl hf
  case resetEnd straps => exact absurd rfl (hr straps)
  case passResultTakenEngines =>
    rw [exec, execPassResultTakenEngines]
    exact ⟨_, rfl⟩
  case passResultTakenRudders =>
    rw [exec, execPassResultTakenRudders]
    exact ⟨_, rfl⟩
  case fieldCharacterReceived =>
    rw [exec, execFieldCharacterReceived]
    exact ⟨_, rfl⟩
  case portByteReceived =>
    rw [exec, execPortByteReceived]
    exact ⟨_, rfl⟩
  all_goals exact ⟨_, rfl⟩

theorem live_asleep {f : State → State} (h : s.inReset = true) : live s f = .next s := by simp [live, h]

/-- The tables and records of a part at POR. -/
theorem porTables_por (now choices : Nat) (lv : LineLevels) (straps : Straps) (pending : List Instr) :
    PorTables (State.por now choices lv straps pending) ∧ PorRecords (State.por now choices lv straps pending) := by
  refine ⟨⟨fun i => ?_, fun i => ?_, fun i => ?_, fun i => ?_, rfl, rfl, fun l => ?_⟩, ?_⟩
  · simp only [State.por, slot_replicate]
    exact ⟨⟨rfl, rfl⟩, rfl, rfl⟩
  · simp only [State.por, slot_replicate]
    rfl
  · simp only [State.por, slot_replicate]
    rfl
  · simp only [State.por, slot_replicate]
    rfl
  · cases l <;> rfl
  · and_intros <;> rfl

theorem afterReset_por (now choices : Nat) (lv : LineLevels) (straps : Straps) (pending : List Instr) :
    AfterReset straps (State.por now choices lv straps pending) :=
  ⟨rfl, (porTables_por ..).1, (porTables_por ..).2, by and_intros <;> rfl, by and_intros <;> rfl, by and_intros <;> rfl⟩

theorem attention_por (now choices : Nat) (lv : LineLevels) (straps : Straps) (pending : List Instr) (p : Port) :
    (State.por now choices lv straps pending).attention p = true := by
  have h : (!false && decide ((1 : EventSet) &&& 0x3FFFFF ≠ 0)) = true := by decide
  cases p <;> exact h

theorem resetEnd_begun (straps : Straps) (h : s.inReset = true) :
    exec (.resetEnd straps) s = .next (State.por s.now s.choices s.levels straps s.pending) := by
  rw [exec, execResetEnd, if_pos h]

/-- Settles O3: the record and table of each block, at POR. -/
theorem fullReset : Obligations.FullReset := by
  refine ⟨⟨fun s => ?begun, fun c s hreset hf hr => ?asleep⟩, fun straps s hreset => ?ended, fun straps s hreset => ?stays,
    afterReset_por .., rfl⟩
  case begun =>
    obtain ⟨htables, hrecords⟩ := porTables_por s.now s.choices s.levels s.straps s.pending
    refine ⟨s.beginReset, rfl, rfl, htables, hrecords, rfl, rfl, fun p => ?_, fun l => ?_⟩
    · cases p <;> and_intros <;> rfl
    · cases l <;> rfl
  case asleep =>
    obtain ⟨f, hlive⟩ := exec_live hf hr s
    rw [hlive, live_asleep hreset]
  case ended => exact ⟨_, resetEnd_begun straps hreset, afterReset_por .., rfl, rfl, attention_por _ _ _ _ _⟩
  case stays => rw [exec, execResetEnd, hreset, if_neg Bool.false_ne_true]

/-! ## Posts and attention (R175, R177) -/

/-- R190: the set of one kind holds the position of that kind. -/
theorem getLsbD_single (k : EventKind) (n : Nat) : k.single.getLsbD n = decide (n = k.ctorIdx) := by
  have hk : k.ctorIdx < 22 := by cases k <;> decide
  rw [EventKind.single, EventKind.bit, BitVec.getLsbD_shiftLeft, Bool.eq_iff_iff]
  simp
  omega

/-- Two sets share a kind exactly where their intersection is not empty. -/
theorem inter_ne_zero (a b : EventSet) : a &&& b ≠ 0 ↔ ∃ n, a.getLsbD n = true ∧ b.getLsbD n = true := by
  constructor
  · contrapose!
    intro h
    refine BitVec.eq_of_getLsbD_eq fun n _ => ?_
    have := h n
    cases ha : a.getLsbD n <;> simp_all
  · rintro ⟨n, ha, hb⟩ h
    have := congrArg (BitVec.getLsbD · n) h
    simp [ha, hb] at this

/-- Settles O4: a post is a union with a set of one kind. -/
theorem postsAndAttention : Obligations.PostsAndAttention := by
  refine ⟨fun k s p n => ⟨?_, ?_, ?_, fun q hq => ?_⟩, fun k s p => ⟨rfl, rfl⟩, fun s p => ?_, fun r => ?_⟩
  · rw [port_post, PortRec.post, BitVec.getLsbD_or, getLsbD_single]
  · rw [port_post]
    rfl
  · rw [port_postTo, if_pos rfl, port_post]
  · rw [port_postTo, if_neg hq]
  · rw [State.attention, Bool.and_eq_true, Bool.not_eq_true', decide_eq_true_iff, inter_ne_zero]
    rfl
  · rw [PortRec.pendingCount, eventCount, List.countP_eq_length_filter]
    simp only [BitVec.getLsbD_and]

/-! ## Replies (R169, R171) -/

/-- A place in a list of blocks of `n` each. -/
theorem getD_flatMap_block {α β : Type} {n k i : Nat} {f : α → List β} {d : β} (hf : ∀ x, (f x).length = n) (hk : k < n)
    (l : List α) (x : α) (hx : l[i]? = some x) : (l.flatMap f).getD (i * n + k) d = (f x).getD k d := by
  induction l generalizing i with
  | nil => simp at hx
  | cons a l ih =>
    rw [List.flatMap_cons]
    cases i with
    | zero =>
      obtain rfl : a = x := by simpa using hx
      rw [Nat.zero_mul, Nat.zero_add, List.getD_append _ _ _ _ (by rw [hf]; exact hk)]
    | succ i =>
      have hle : (f a).length ≤ (i + 1) * n + k := by
        rw [hf, Nat.succ_mul]
        omega
      have hsub : (i + 1) * n + k - n = i * n + k := by
        rw [Nat.succ_mul]
        omega
      rw [List.getD_append_right _ _ _ _ hle, hf, hsub]
      exact ih (by simpa using hx)

/-- The place of a moment in back-to-back pieces of `bit` each. -/
theorem div_of_within {start bit m now : Nat} (h1 : start + m * bit ≤ now) (h2 : now < start + (m + 1) * bit) :
    (now - start) / bit = m := by
  have hbit : 0 < bit := by
    by_contra h0
    obtain rfl : bit = 0 := by omega
    omega
  rw [Nat.div_eq_iff hbit]
  rw [Nat.succ_mul] at h2
  constructor <;> omega

theorem byteBits_length (b : Byte) : (byteBits b).length = 10 := by simp [byteBits, dataBits]

/-- A 2-byte number as its two bytes. -/
theorem be_two (x : BitVec 16) : ∃ hi lo : Byte, be 2 x.toNat = [hi, lo] ∧ hi ++ lo = x := by
  refine ⟨BitVec.ofNat 8 (x.toNat / 256), BitVec.ofNat 8 x.toNat, by simp [be], ?_⟩
  apply BitVec.eq_of_toNat_eq
  have hx := x.isLt
  rw [BitVec.toNat_append, BitVec.toNat_ofNat, BitVec.toNat_ofNat, ← Nat.shiftLeft_add_eq_or_of_lt (Nat.mod_lt _ (by decide)),
    Nat.shiftLeft_eq]
  omega

theorem bitTime_eq (r : Rate) : r.bitTime = if r = .r115200 then 20 else 5 := by cases r <;> rfl

theorem byteTime_eq (r : Rate) : r.byteTime = 10 * r.bitTime := by cases r <;> rfl

/-- Settles O5: the reply, its frame, the bits of a byte, and the level of the output from the place of the moment. -/
theorem replyComposed : Obligations.ReplyComposed := by
  refine ⟨fun p tag r body s => ?_, fun r => ?_, fun b => ?_, fun r now => ⟨fun h => ?_, ?_⟩⟩
  · simp only [State.reply, State.modPort, State.setPort, PortRec.push, Reply.size, List.isEmpty_iff]
  · obtain ⟨hi, lo, hbe, happ⟩ := be_two (crc16 (BitVec.ofNat 8 (r.body.length + 3) :: r.tag
      :: BitVec.ofNat 8 r.result.ctorIdx :: BitVec.ofNat 8 r.pending :: r.body))
    refine ⟨hi, lo, ?_, happ⟩
    have hone : be 1 r.pending = [BitVec.ofNat 8 r.pending] := by simp [be]
    simp only [Reply.bytes, hone, Result.code, List.cons_append, List.nil_append, hbe]
  · exact ⟨_, _, _, _, _, _, _, _, rfl, rfl⟩
  · unfold PortRec.txLevel
    split
    · rename_i hd hr
      simp [hd, hr] at h
    · rfl
  · intro d bit start n k x rest b hd hr hbit hstart hb hk h1 h2
    rw [← bitTime_eq] at hbit
    subst hbit hstart
    simp only [PortRec.txLevel, hd, hr, byteTime_eq, Reply.size]
    rw [div_of_within h1 h2, getD_flatMap_block byteBits_length hk _ b hb]

end Sys2Proof.Machine
end

section
/-! SUPPORT. The schedule: the timers listed are the moments at which the commands of the part expire, and every command goes
on. -/

namespace Sys2Proof.Machine

open Sys2Proof

variable {s : State} {c : LineCtl} {d n : Nat} {e : NodeEntry}

/-! ## The moments of a field line (R154, R155, R160 to R162) -/

theorem inCharacter_iff (c : LineCtl) : c.inCharacter ↔ c.receiver.characterSince.isSome := by
  simp only [LineCtl.inCharacter, Option.isSome_iff_exists, characterSince_eq_some]

theorem dueQuiet_iff {since quiet : Nat} : c.dueQuiet since quiet ↔ c.link = .due since ∧ quiet = c.quietFrom since := Iff.rfl

theorem quietInTime_iff (since : Nat) :
    c.quietInTime since = true ↔ ¬c.inCharacter ∧ c.quietFrom since ≤ since + ms 10 := by
  rw [inCharacter_iff, LineCtl.quietInTime]
  simp

theorem transmitAt_eq_some :
    c.transmitAt = some d ↔ ∃ since, c.dueQuiet since d ∧ ¬c.inCharacter ∧ d ≤ since + ms 10 := by
  simp only [dueQuiet_iff]
  unfold LineCtl.transmitAt
  split
  · rename_i since hlink
    simp only [hlink, Option.ite_none_right_eq_some, quietInTime_iff, Option.some.injEq, Link.due.injEq]
    constructor
    · rintro ⟨⟨h1, h2⟩, rfl⟩
      exact ⟨since, ⟨rfl, rfl⟩, h1, h2⟩
    · rintro ⟨_, ⟨rfl, rfl⟩, h1, h2⟩
      exact ⟨⟨h1, h2⟩, rfl⟩
  · rename_i hno
    simp only [reduceCtorEq, false_iff]
    rintro ⟨since, ⟨hlink, -⟩, -⟩
    exact hno since hlink

theorem giveUpAt_eq_some :
    c.giveUpAt = some d ↔ ∃ since q, c.dueQuiet since q ∧ (c.inCharacter ∨ since + ms 10 < q) ∧ d = since + ms 10 := by
  simp only [dueQuiet_iff]
  unfold LineCtl.giveUpAt
  split
  · rename_i since hlink
    simp only [hlink, Option.ite_none_left_eq_some, quietInTime_iff, Option.some.injEq, Link.due.injEq, not_and_or, not_not,
      not_le]
    constructor
    · rintro ⟨h, rfl⟩
      exact ⟨since, _, ⟨rfl, rfl⟩, h, rfl⟩
    · rintro ⟨_, _, ⟨rfl, rfl⟩, h, rfl⟩
      exact ⟨h, rfl⟩
  · rename_i hno
    simp only [reduceCtorEq, false_iff]
    rintro ⟨since, q, ⟨hlink, -⟩, -⟩
    exact hno since hlink

theorem transmissionEndsAt_eq_some : c.transmissionEndsAt = some d ↔
    (∃ start, c.link = .sending start d) ∨ ∃ start since, c.link = .stopping start d since := by
  unfold LineCtl.transmissionEndsAt
  cases c.link <;> simp

theorem windowClosesAt_eq_some : c.windowClosesAt = some d ↔ ∃ rx, c.link = .window d true rx := by
  unfold LineCtl.windowClosesAt
  split
  · rename_i hlink
    simp [hlink]
  · rename_i hno
    simp only [reduceCtorEq, false_iff]
    rintro ⟨rx, hlink⟩
    exact hno d rx hlink

theorem endsAt_eq_some {r : LineReceiver} : r.endsAt = some d ↔
    ∃ since x risen, r = .sampling since x risen ∧ d = since + if majority x.start = true then 18 else 11 * 40 := by
  cases r with
  | sampling since x risen =>
    simp only [LineReceiver.endsAt, Option.some.injEq, LineReceiver.sampling.injEq, eq_comm (b := d)]
    constructor
    · rintro rfl
      exact ⟨since, x, risen, ⟨rfl, rfl, rfl⟩, rfl⟩
    · rintro ⟨_, _, _, ⟨rfl, rfl, rfl⟩, rfl⟩
      rfl
  | searching => simp [LineReceiver.endsAt]
  | waitingHigh => simp [LineReceiver.endsAt]

/-- R161: the end of a gap, where no character is in progress. -/
theorem gapEndsAt_eq_some : c.gapEndsAt = some d ↔ ¬c.inCharacter ∧ d = c.lastChar.getD 0 + ms 1 + 1 := by
  rw [inCharacter_iff, LineCtl.gapEndsAt, Option.ite_none_left_eq_some, LineCtl.gapAt, Option.some.injEq, eq_comm (b := d)]

theorem inReply_iff : c.inReply e n ↔ ∃ t o i, c.polled = some (i, e)
    ∧ ((∃ chars, c.link = .window t o (.reply chars) ∧ chars.length = n) ∨ c.link = .window t o (.late n)) := by
  simp only [LineCtl.inReply, polled_eq_some, and_assoc]

/-- R161: a reply, or a late reply, ends at one character too many, or at a gap. -/
theorem replyEndsAt_of_inReply (h : c.inReply e n) : c.replyEndsAt =
    if e.bound.replyLength < n then some (c.lastChar.getD 0) else c.gapEndsAt := by
  obtain ⟨t, o, i, hp, ⟨chars, hlink, rfl⟩ | hlink⟩ := inReply_iff.mp h
  · simp only [LineCtl.replyEndsAt, hp, hlink]
  · simp only [LineCtl.replyEndsAt, hp, hlink]

theorem replyEndsAt_of_not_inReply (h : ∀ e n, ¬c.inReply e n) : c.replyEndsAt =
    if c.lateTail.isSome then c.gapEndsAt else none := by
  unfold LineCtl.replyEndsAt
  split
  · rename_i t o chars i e hlink hp
    exact absurd (inReply_iff.mpr ⟨t, o, i, hp, .inl ⟨chars, hlink, rfl⟩⟩) (h _ _)
  · rename_i t o n i e hlink hp
    exact absurd (inReply_iff.mpr ⟨t, o, i, hp, .inr hlink⟩) (h _ _)
  · rfl

theorem replyEndsAt_eq_some : c.replyEndsAt = some d ↔
    (∃ e n, c.inReply e n ∧ e.bound.replyLength < n ∧ d = c.lastChar.getD 0)
      ∨ (∃ e n, c.inReply e n ∧ n ≤ e.bound.replyLength ∧ ¬c.inCharacter ∧ d = c.lastChar.getD 0 + ms 1 + 1)
      ∨ ((∀ e n, ¬c.inReply e n) ∧ c.lateTail ≠ none ∧ ¬c.inCharacter ∧ d = c.lastChar.getD 0 + ms 1 + 1) := by
  by_cases hreply : ∃ e n, c.inReply e n
  · constructor
    · obtain ⟨e, n, h⟩ := hreply
      rw [replyEndsAt_of_inReply h]
      split
      · rename_i hlong
        rintro ⟨rfl⟩
        exact .inl ⟨e, n, h, hlong, rfl⟩
      · rename_i hshort
        rw [gapEndsAt_eq_some]
        exact fun hgap => .inr (.inl ⟨e, n, h, Nat.not_lt.mp hshort, hgap⟩)
    · rintro (⟨e, n, h, hlong, rfl⟩ | ⟨e, n, h, hshort, hgap⟩ | ⟨hno, -⟩)
      · rw [replyEndsAt_of_inReply h, if_pos hlong]
      · rw [replyEndsAt_of_inReply h, if_neg (Nat.not_lt.mpr hshort), gapEndsAt_eq_some]
        exact hgap
      · obtain ⟨e, n, h⟩ := hreply
        exact absurd h (hno e n)
  · have hno : ∀ e n, ¬c.inReply e n := fun e n h => hreply ⟨e, n, h⟩
    rw [replyEndsAt_of_not_inReply hno, Option.ite_none_right_eq_some, gapEndsAt_eq_some, Option.isSome_iff_ne_none]
    constructor
    · exact fun h => .inr (.inr ⟨hno, h⟩)
    · rintro (⟨e, n, h, -⟩ | ⟨e, n, h, -⟩ | ⟨-, h⟩)
      · exact absurd h (hno e n)
      · exact absurd h (hno e n)
      · exact h

/-! ## The moments of a port (R169, R170) -/

theorem gapAt_eq_some {r : PortRec} : r.gapAt = some d ↔
    r.receiver ≠ .hunting ∧ (∀ x, r.incoming = some x → majority x.samples.start = true) ∧ d = r.lastByte + ms 2 + 1 := by
  rw [PortRec.gapAt, Option.ite_none_right_eq_some, Option.some.injEq, PortRec.receiving, decide_eq_true_iff, and_assoc,
    eq_comm (b := d)]
  refine and_congr_right fun _ => and_congr_left fun _ => ?_
  cases r.incoming with
  | none => simp
  | some x => simp [Incoming.isByte]

/-! ## The list of the timers -/

/-- What the list of the timers of a line holds. -/
theorem mem_lineTimers (l : Line) (d : Nat) (i : Instr) : (d, i) ∈ lineTimers s l ↔
    ((s.line l).transmitAt = some d ∧ i = .pollTransmit l) ∨ ((s.line l).giveUpAt = some d ∧ i = .quietWaitTimeout l)
      ∨ ((s.line l).transmissionEndsAt = some d ∧ i = .pollTransmissionEnd l)
      ∨ ((s.line l).windowClosesAt = some d ∧ i = .replyWindowClose l)
      ∨ ((s.line l).replyEndsAt = some d ∧ i = .replyEnd l)
      ∨ ((s.line l).receiver.endsAt = some d ∧ i = .fieldCharacterReceived l .ends) := by
  simp only [lineTimers, List.mem_append, mem_timed, or_assoc]

theorem mem_portTimers (p : Port) (d : Nat) (i : Instr) : (d, i) ∈ portTimers s p ↔
    ((s.port p).gapAt = some d ∧ i = .frameGapTimeout p) ∨ ((s.port p).txDone = some d ∧ i = .replySent p)
      ∨ ∃ x, (s.port p).incoming = some x ∧ d = x.endsAt (s.port p).rate ∧ i = .portByteReceived p .ends x.levels := by
  simp only [portTimers, List.mem_append, mem_timed, or_assoc, List.mem_map, Option.mem_toList, Prod.mk.injEq,
    eq_comm (b := d), eq_comm (b := i)]

theorem expires_of_mem_line {l : Line} {i : Instr} (hmem : (d, i) ∈ lineTimers s l) : ExpiresAt s i d := by
  obtain ⟨h, rfl⟩ | ⟨h, rfl⟩ | ⟨h, rfl⟩ | ⟨h, rfl⟩ | ⟨h, rfl⟩ | ⟨h, rfl⟩ := (mem_lineTimers ..).mp hmem
  · obtain ⟨since, hq, hc, hd⟩ := transmitAt_eq_some.mp h
    exact .quiet hq hc hd
  · obtain ⟨since, q, hq, hc, rfl⟩ := giveUpAt_eq_some.mp h
    exact .unquiet hq hc
  · obtain ⟨start, h⟩ | ⟨start, since, h⟩ := transmissionEndsAt_eq_some.mp h
    · exact .sent h
    · exact .cut h
  · obtain ⟨rx, h⟩ := windowClosesAt_eq_some.mp h
    exact .window h
  · obtain ⟨e, n, hr, hl, rfl⟩ | ⟨e, n, hr, hl, hc, rfl⟩ | ⟨hno, ht, hc, rfl⟩ := replyEndsAt_eq_some.mp h
    · exact .overlong hr hl
    · exact .gap hr hl hc
    · exact .tailGap hno ht hc
  · obtain ⟨since, x, risen, hrx, rfl⟩ := endsAt_eq_some.mp h
    exact .character hrx

theorem endsAt_incoming (r : Rate) (x : Incoming) : x.endsAt r =
    x.since + if majority x.samples.start = true then r.startDecided else r.byteTime := by
  unfold Incoming.endsAt Incoming.isByte
  cases majority x.samples.start <;> rfl

theorem expires_of_mem_port {p : Port} {i : Instr} (hmem : (d, i) ∈ portTimers s p) : ExpiresAt s i d := by
  obtain ⟨h, rfl⟩ | ⟨h, rfl⟩ | ⟨x, h, rfl, rfl⟩ := (mem_portTimers ..).mp hmem
  · obtain ⟨hr, hi, rfl⟩ := gapAt_eq_some.mp h
    exact .frameGap hr hi
  · exact .reply h
  · rw [endsAt_incoming]
    exact .byte h

/-- What the list of all timers holds, block by block. -/
theorem mem_timers (d : Nat) (i : Instr) : (d, i) ∈ s.timers ↔
    (s.helm.queryDeadline = some d ∧ i = .queryDeadlineExpiry) ∨ (s.helm.silenceDeadline = some d ∧ i = .silenceDeadlineExpiry)
      ∨ (s.helm.decayTimer = some d ∧ i = .decayTimerExpiry) ∨ (s.passTimer = some d ∧ i = .passTimerExpiry)
      ∨ (∃ k, (d, i) ∈ engineTimers s k) ∨ (∃ k : Fin 8, s.rudders[k].jamDeadline = some d ∧ i = .jamDeadlineExpiry k)
      ∨ (∃ k, (d, i) ∈ couplingTimers s k) ∨ (s.estimationTimer = some d ∧ i = .estimationTimerExpiry)
      ∨ (∃ k : Fin 8, s.tanks[k].discDeadline = some d ∧ i = .discrepancyDeadlineExpiry k)
      ∨ (∃ k : Fin 2, s.channels[k].settling = some d ∧ i = .settlingDeadlineExpiry k)
      ∨ (∃ l, (d, i) ∈ lineTimers s l) ∨ (∃ p, (d, i) ∈ portTimers s p)
      ∨ (s.phase.secondsTimer = some d ∧ i = .secondsTimerExpiry) := by
  have hlines : (∃ l, (d, i) ∈ lineTimers s l) ↔ (d, i) ∈ lineTimers s .A ∨ (d, i) ∈ lineTimers s .B :=
    ⟨fun ⟨l, h⟩ => by cases l <;> simp [h], fun h => h.elim (⟨_, ·⟩) (⟨_, ·⟩)⟩
  have hports : (∃ p, (d, i) ∈ portTimers s p) ↔
      (d, i) ∈ portTimers s .L ∨ (d, i) ∈ portTimers s .H ∨ (d, i) ∈ portTimers s .E :=
    ⟨fun ⟨p, h⟩ => by cases p <;> simp [h], fun h => h.elim (⟨_, ·⟩) fun h => h.elim (⟨_, ·⟩) (⟨_, ·⟩)⟩
  rw [hlines, hports]
  simp only [State.timers, List.mem_append, List.mem_flatMap, List.mem_finRange, true_and, mem_timed, or_assoc]

/-- What is listed expires at its moment. -/
theorem expires_of_mem {i : Instr} (hmem : (d, i) ∈ s.timers) : ExpiresAt s i d := by
  obtain ⟨h, rfl⟩ | ⟨h, rfl⟩ | ⟨h, rfl⟩ | ⟨h, rfl⟩ | ⟨k, h⟩ | ⟨k, h, rfl⟩ | ⟨k, h⟩ | ⟨h, rfl⟩ | ⟨k, h, rfl⟩ | ⟨k, h, rfl⟩
    | ⟨l, h⟩ | ⟨p, h⟩ | ⟨h, rfl⟩ := (mem_timers ..).mp hmem
  · exact .query h
  · exact .silence h
  · exact .decay h
  · exact .pass h
  · simp only [engineTimers, List.mem_append, mem_timed] at h
    obtain (⟨h, rfl⟩ | ⟨h, rfl⟩) | ⟨h, rfl⟩ := h
    · exact .dwell h
    · exact .confirm h
    · exact .track h
  · exact .jam h
  · simp only [couplingTimers, List.mem_append, mem_timed, deadlineOf_eq_some] at h
    obtain ((⟨h, rfl⟩ | ⟨h, rfl⟩) | ⟨h, rfl⟩) | ⟨h, rfl⟩ := h
    · exact .freshness h
    · exact .heave h
    · exact .release h
    · exact .slackDwell h
  · exact .estimation h
  · exact .discrepancy h
  · exact .settling h
  · exact expires_of_mem_line h
  · exact expires_of_mem_port h
  · exact .seconds h

theorem mem_of_engine {i : Fin 8} {x : Instr} (h : (d, x) ∈ engineTimers s i) : (d, x) ∈ s.timers := by
  rw [mem_timers]
  exact .inr (.inr (.inr (.inr (.inl ⟨i, h⟩))))

theorem mem_of_coupling {i : Fin 24} {x : Instr} (h : (d, x) ∈ couplingTimers s i) : (d, x) ∈ s.timers := by
  rw [mem_timers]
  exact .inr (.inr (.inr (.inr (.inr (.inr (.inl ⟨i, h⟩))))))

theorem mem_of_line {l : Line} {x : Instr} (h : (d, x) ∈ lineTimers s l) : (d, x) ∈ s.timers := by
  rw [mem_timers]
  exact .inr (.inr (.inr (.inr (.inr (.inr (.inr (.inr (.inr (.inr (.inl ⟨l, h⟩))))))))))

theorem mem_of_port {p : Port} {x : Instr} (h : (d, x) ∈ portTimers s p) : (d, x) ∈ s.timers := by
  rw [mem_timers]
  exact .inr (.inr (.inr (.inr (.inr (.inr (.inr (.inr (.inr (.inr (.inr (.inl ⟨p, h⟩)))))))))))

/-- What expires at a moment is listed. -/
theorem mem_of_expires {i : Instr} (hx : ExpiresAt s i d) : (d, i) ∈ s.timers := by
  cases hx
  case query h => exact (mem_timers ..).mpr (.inl ⟨h, rfl⟩)
  case silence h => exact (mem_timers ..).mpr (.inr (.inl ⟨h, rfl⟩))
  case decay h => exact (mem_timers ..).mpr (.inr (.inr (.inl ⟨h, rfl⟩)))
  case pass h => exact (mem_timers ..).mpr (.inr (.inr (.inr (.inl ⟨h, rfl⟩))))
  case dwell k h => exact mem_of_engine (i := k) (by simpa [engineTimers] using h)
  case confirm k h => exact mem_of_engine (i := k) (by simpa [engineTimers] using h)
  case track k h => exact mem_of_engine (i := k) (by simpa [engineTimers] using h)
  case jam k h => exact (mem_timers ..).mpr (.inr (.inr (.inr (.inr (.inr (.inl ⟨k, h, rfl⟩))))))
  case freshness k h => exact mem_of_coupling (i := k) (by simpa [couplingTimers] using h)
  case heave k h => exact mem_of_coupling (i := k) (by simpa [couplingTimers, deadlineOf_eq_some] using h)
  case release k h => exact mem_of_coupling (i := k) (by simpa [couplingTimers, deadlineOf_eq_some] using h)
  case slackDwell k h => exact mem_of_coupling (i := k) (by simpa [couplingTimers, deadlineOf_eq_some] using h)
  case estimation h => exact (mem_timers ..).mpr (by simp [h])
  case discrepancy k h =>
    exact (mem_timers ..).mpr (.inr (.inr (.inr (.inr (.inr (.inr (.inr (.inr (.inl ⟨k, h, rfl⟩)))))))))
  case settling k h =>
    exact (mem_timers ..).mpr (.inr (.inr (.inr (.inr (.inr (.inr (.inr (.inr (.inr (.inl ⟨k, h, rfl⟩))))))))))
  case seconds h => exact (mem_timers ..).mpr (by simp [h])
  case quiet l since hc hq hd =>
    exact mem_of_line (l := l) ((mem_lineTimers ..).mpr (.inl ⟨transmitAt_eq_some.mpr ⟨since, hq, hc, hd⟩, rfl⟩))
  case unquiet l since q hq hc =>
    exact mem_of_line (l := l) ((mem_lineTimers ..).mpr (.inr (.inl ⟨giveUpAt_eq_some.mpr ⟨since, q, hq, hc, rfl⟩, rfl⟩)))
  case sent l start h =>
    exact mem_of_line (l := l) (by simp [mem_lineTimers, transmissionEndsAt_eq_some.mpr (.inl ⟨start, h⟩)])
  case cut l start since h =>
    exact mem_of_line (l := l) (by simp [mem_lineTimers, transmissionEndsAt_eq_some.mpr (.inr ⟨start, since, h⟩)])
  case window l rx h => exact mem_of_line (l := l) (by simp [mem_lineTimers, windowClosesAt_eq_some.mpr ⟨rx, h⟩])
  case overlong l e n hr hl =>
    exact mem_of_line (l := l) (by simp [mem_lineTimers, replyEndsAt_eq_some.mpr (.inl ⟨e, n, hr, hl, rfl⟩)])
  case gap l e n hr hl hc =>
    exact mem_of_line (l := l) (by simp [mem_lineTimers, replyEndsAt_eq_some.mpr (.inr (.inl ⟨e, n, hr, hl, hc, rfl⟩))])
  case tailGap l hno ht hc =>
    exact mem_of_line (l := l) (by simp [mem_lineTimers, replyEndsAt_eq_some.mpr (.inr (.inr ⟨hno, ht, hc, rfl⟩))])
  case character l since x risen h =>
    exact mem_of_line (l := l) (by simp [mem_lineTimers, endsAt_eq_some.mpr ⟨since, x, risen, h, rfl⟩])
  case frameGap p hr hi => exact mem_of_port (p := p) (by simp [mem_portTimers, gapAt_eq_some.mpr ⟨hr, hi, rfl⟩])
  case reply p h => exact mem_of_port (p := p) (by simp [mem_portTimers, h])
  case byte p x h =>
    rw [← endsAt_incoming]
    exact mem_of_port (p := p) ((mem_portTimers ..).mpr (.inr (.inr ⟨x, h, rfl, rfl⟩)))

theorem mem_timers_iff (d : Nat) (i : Instr) : (d, i) ∈ s.timers ↔ ExpiresAt s i d := ⟨expires_of_mem, mem_of_expires⟩

/-! ## What waits (R43, R165) -/

theorem mem_take_one {α : Type} (x : α) (l : List α) : x ∈ l.take 1 ↔ l.head? = some x := by
  cases l <;> simp [eq_comm]

theorem mem_offers (i : Instr) : i ∈ s.offers ↔ WaitsToBeTaken s i := by
  have hlines : (∃ l, (s.line l).handovers.head? = some i) ↔
      s.lines.a.handovers.head? = some i ∨ s.lines.b.handovers.head? = some i :=
    ⟨fun ⟨l, h⟩ => by cases l <;> simp_all [State.line, PerLine.get], fun h => h.elim (⟨.A, ·⟩) (⟨.B, ·⟩)⟩
  unfold WaitsToBeTaken
  rw [hlines]
  simp only [State.offers, List.mem_append, mem_take_one, or_assoc, ← Option.isSome_iff_ne_none]
  cases s.engineResult <;> cases s.rudderResult <;> simp

/-! ## The statement -/

/-- R11 of the schedule: with an empty queue, time passes or one of the events that are due enters it. -/
theorem idle_cases (s : State) : (s.due = [] ∧ s.idle = { s with now := s.now + 1 })
    ∨ ∃ c ∈ s.due, ∃ n, s.idle = { s with pending := [c], choices := n } ∧ s.choices ≤ n := by
  unfold State.idle
  split
  · rename_i h
    exact .inl ⟨h, rfl⟩
  · rename_i c h
    exact .inr ⟨c, by simp [h], _, rfl, le_rfl⟩
  · rename_i c cs _ h
    refine .inr ⟨_, ?_, _, rfl, Nat.le_succ _⟩
    have hlt : Config.freeChoice s.choices % (cs.length + 1) < (c :: cs).length := Nat.mod_lt _ (Nat.succ_pos _)
    rw [h, List.getD_eq_getElem _ _ hlt]
    exact List.getElem_mem _

/-- Settles O2: the moments listed are those of the events, each command answers a next state, and with an empty queue one
of what is due is taken. -/
theorem everyStepGoesOn : Obligations.EveryStepGoesOn := by
  refine ⟨fun s hp => ⟨s.idle, step_nil hp, idle_cases s⟩, fun c s => ?_, fun s c => ?_⟩
  · obtain ⟨t, heq, -, hon⟩ := lawful_of_exec c s
    exact ⟨t, heq, hon⟩
  · rw [mem_due, mem_offers]
    simp only [mem_timers_iff, Prod.forall]
    refine or_congr (exists_congr fun d => and_congr_right fun _ => and_congr_right fun _ => ?_) Iff.rfl
    exact ⟨fun h c' d' hx => h d' c' hx, fun h d' c' hx => h c' d' hx⟩

end Sys2Proof.Machine
end


section
/-! SUPPORT. How bytes make a frame at a port (O7). -/

namespace Sys2Proof.Machine

open Sys2Proof

variable {s : State} {p : Port} {lv : LineLevels} {y : Incoming}

/-! ## The decided bits -/

theorem majority_iff (x : Samples) : majority x = true ↔ 2 ≤ [x.s1, x.s2, x.s3].count true := by
  obtain ⟨a, b, c⟩ := x
  cases a <;> cases b <;> cases c <;> decide

/-- The bits of a number built from the least significant one upwards. -/
theorem foldr_bits_testBit (l : List Bool) (i : Nat) :
    (l.foldr (fun (b : Bool) n => (if b then 1 else 0) + 2 * n) 0).testBit i = l.getD i false := by
  induction l generalizing i with
  | nil => simp
  | cons b l ih =>
    cases i with
    | zero =>
      rw [List.foldr_cons, Nat.testBit_zero]
      cases b <;> simp
    | succ i =>
      rw [List.foldr_cons, Nat.testBit_succ]
      have hdiv : ∀ n, ((if b then 1 else 0) + 2 * n) / 2 = n := fun n => by
        cases b
        · simp
        · simp
          omega
      rw [hdiv, ih, List.getD_cons_succ]

theorem getLsbD_dataByte (v : Vector Samples 8) (i : Fin 8) : (dataByte v).getLsbD i.val = majority v[i] := by
  have hfold : v.toList.foldr (fun x n => (if majority x then 1 else 0) + 2 * n) 0
      = (v.toList.map majority).foldr (fun (b : Bool) n => (if b then 1 else 0) + 2 * n) 0 := by rw [List.foldr_map]
  rw [dataByte, BitVec.getLsbD_ofNat, hfold, foldr_bits_testBit]
  simp [i.isLt, List.getD_eq_getElem?_getD]

/-! ## When an edge is looked for -/

theorem isByte_of_glitch (h : majority y.samples.start = true) : y.isByte = false := by simp [Incoming.isByte, h]

theorem isByte_of_low (h : majority y.samples.start = false) : y.isByte = true := by simp [Incoming.isByte, h]

theorem freeFrom_eq (r : Rate) (x : Incoming) : x.freeFrom r =
    x.since + if majority x.samples.start = true then r.startDecided else r.stopDecided := by
  cases h : majority x.samples.start <;> simp [Incoming.freeFrom, Incoming.isByte, h]

theorem gapFirst_eq (now : Nat) (r : PortRec) : r.gapFirst now =
    if r.receiver ≠ .hunting ∧ r.lastByte + ms 2 < now
    then { r with truncated := min 65535 (r.truncated + 1), receiver := .hunting } else r := by
  simp [PortRec.gapFirst, PortRec.receiving, PortRec.discardShort, bump16, satAdd]

theorem exec_edge (x : ByteSamples) (h : s.inReset = false) :
    exec (.portByteReceived p (.edge x) lv) s = .next (portEdge p x lv s) := live_awake h

theorem exec_byteEnds (h : s.inReset = false) : exec (.portByteReceived p .ends lv) s =
    .next (onExpiry (s.port p).byteEndsAt (fun _ => byteEnds p lv) s) := live_awake h

/-- A port with nothing coming in takes the edge. -/
theorem portEdge_free (x : ByteSamples) (h : (s.port p).incoming = none) : portEdge p x lv s =
    s.setPort p { (s.port p).gapFirst s.now with incoming := some { since := s.now, samples := x, levels := lv } } := by
  simp [portEdge, freePort, h, State.modPort]

/-- While what is coming in has not been decided, an edge is not looked for. -/
theorem portEdge_busy (x : ByteSamples) (h : (s.port p).incoming = some y) (hnow : s.now < y.freeFrom (s.port p).rate) :
    portEdge p x lv s = s := by
  simp [portEdge, freePort, h, Nat.not_le.mpr hnow]

/-- What is coming in is decided before an edge that comes later. -/
theorem portEdge_decided (x : ByteSamples) (h : (s.port p).incoming = some y) (hnow : y.freeFrom (s.port p).rate ≤ s.now)
    (hend : ((byteEnds p y.levels s).port p).incoming = none) : portEdge p x lv s = portEdge p x lv (byteEnds p y.levels s) := by
  have hfree : freePort p s = byteEnds p y.levels s := by simp [freePort, h, hnow]
  have hagain : freePort p (byteEnds p y.levels s) = byteEnds p y.levels s := by simp [freePort, hend]
  rw [portEdge, portEdge, hfree, hagain]

/-! ## A byte at the receiver -/

/-- R169: what began at the edge is over, with the byte it was. -/
theorem byteEnds_glitch (hin : (s.port p).incoming = some y) (hm : majority y.samples.start = true) :
    byteEnds p lv s = s.setPort p { s.port p with incoming := none } := by
  simp [byteEnds, hin, isByte_of_glitch hm, State.modPort]

theorem setPort_setPort (s : State) (p : Port) (a b : PortRec) : (s.setPort p a).setPort p b = s.setPort p b := by
  cases p <;> rfl

theorem takeByte_hunting {r : PortRec} (b : Byte) (framing : Bool) (h : r.receiver = .hunting) :
    r.takeByte b framing = ({ r with receiver := if b = 0xA5 ∧ framing = false then .started else .hunting }, none) := by
  cases framing <;> simp [PortRec.takeByte, h]
  · split
    · rfl
    · rw [← h]
  · rw [← h]

theorem takeByte_framing {r : PortRec} (b : Byte) (h : r.receiver ≠ .hunting) :
    r.takeByte b true = ({ r with badCheck := min 65535 (r.badCheck + 1), receiver := .hunting }, none) := by
  cases hr : r.receiver with
  | hunting => exact absurd hr h
  | started => simp [PortRec.takeByte, hr, PortRec.discardBad, bump16, satAdd]
  | body n bytes => simp [PortRec.takeByte, hr, PortRec.discardBad, bump16, satAdd]

theorem takeByte_started {r : PortRec} (b : Byte) (h : r.receiver = .started) : r.takeByte b false =
    (if 2 ≤ b.toNat ∧ b.toNat ≤ 64 then { r with receiver := .body b.toNat [] }
      else { r with oversize := min 65535 (r.oversize + 1), receiver := .hunting }, none) := by
  by_cases hb : 2 ≤ b.toNat ∧ b.toNat ≤ 64 <;>
    simp [PortRec.takeByte, h, within, ← Bool.decide_and, PortRec.discardLong, bump16, satAdd, hb]

theorem takeByte_body {r : PortRec} {n : Nat} {bytes : List Byte} (b : Byte) (h : r.receiver = .body n bytes)
    (hlen : bytes.length + 1 ≠ n + 2) : r.takeByte b false = ({ r with receiver := .body n (bytes ++ [b]) }, none) := by
  simp only [PortRec.takeByte, h]
  rw [if_neg (by simp), if_neg (by simpa using hlen)]

theorem takeByte_last {r : PortRec} {n : Nat} {bytes : List Byte} (b : Byte) (h : r.receiver = .body n bytes)
    (hlen : bytes.length + 1 = n + 2) :
    r.takeByte b false = ({ r with receiver := .hunting }, some (frameOf n (bytes ++ [b]))) := by
  simp only [PortRec.takeByte, h]
  rw [if_neg (by simp), if_pos (by simpa using hlen)]

/-- The moment of a byte may be set before the byte is looked at. -/
theorem takeByte_lastByte (b : Byte) (framing : Bool) (t : Nat) (r : PortRec) : PortRec.takeByte b framing { r with lastByte := t } =
    ({ (r.takeByte b framing).1 with lastByte := t }, (r.takeByte b framing).2) := by
  simp only [PortRec.takeByte, PortRec.discardBad, PortRec.discardLong]
  repeat' split
  all_goals rfl

/-- R170: a byte that has come in is looked at, with the port as it is once the byte has been taken. -/
theorem byteEnds_taken {b : Byte} {framing : Bool} (hin : (s.port p).incoming = some y)
    (hm : majority y.samples.start = false) (hb : receiveByte y.samples = (b, framing)) :
    byteEnds p lv s = receiveByteAt p (y.since + (s.port p).rate.byteTime) b framing lv
      (s.setPort p { s.port p with incoming := none }) := by
  simp only [byteEnds, hin, isByte_of_low hm, if_true, hb, State.modPort, port_setPort]

theorem byteEnds_of_none {b : Byte} {framing : Bool} {r q : PortRec} (hin : (s.port p).incoming = some y)
    (hm : majority y.samples.start = false) (hb : receiveByte y.samples = (b, framing))
    (hr : r = { s.port p with incoming := none, lastByte := y.since + (s.port p).rate.byteTime })
    (htake : r.takeByte b framing = (q, none)) : byteEnds p lv s = s.setPort p q := by
  subst hr
  have hlast := takeByte_lastByte b framing (y.since + (s.port p).rate.byteTime) { s.port p with incoming := none }
  obtain ⟨hq, hnone⟩ := Prod.mk.inj (hlast.symm.trans htake)
  simp only [byteEnds_taken hin hm hb, receiveByteAt, port_setPort, if_true, setPort_setPort, hnone, hq]

theorem byteEnds_of_frame {b : Byte} {framing : Bool} {r q : PortRec} {f : RequestFrame} (hin : (s.port p).incoming = some y)
    (hm : majority y.samples.start = false) (hb : receiveByte y.samples = (b, framing))
    (hr : r = { s.port p with incoming := none, lastByte := y.since + (s.port p).rate.byteTime })
    (htake : r.takeByte b framing = (q, some f)) : byteEnds p lv s = receiveFrame p f lv (s.setPort p q) := by
  subst hr
  have hlast := takeByte_lastByte b framing (y.since + (s.port p).rate.byteTime) { s.port p with incoming := none }
  obtain ⟨hq, hsome⟩ := Prod.mk.inj (hlast.symm.trans htake)
  simp only [byteEnds_taken hin hm hb, receiveByteAt, port_setPort, if_true, setPort_setPort, hsome, hq]

/-! ## Gaps and replies sent -/

theorem exec_gap (h : s.inReset = false) : exec (.frameGapTimeout p) s =
    .next (onExpiry (s.port p).gapAt (fun _ s => s.modPort p PortRec.discardShort) s) := live_awake h

theorem gapAt_byte (hin : (s.port p).incoming = some y) (hm : majority y.samples.start = false) : (s.port p).gapAt = none := by
  simp [PortRec.gapAt, hin, isByte_of_low hm]

theorem gapAt_hunting {r : PortRec} (h : r.receiver = .hunting) : r.gapAt = none := by
  simp [PortRec.gapAt, PortRec.receiving, h]

theorem sentOne_last {d : Nat} {x : Reply} {r : PortRec} (h : r.replies = [x]) :
    r.sentOne d = { r with replies := [], txDone := none } := by
  simp [PortRec.sentOne, h]

theorem sentOne_more {d : Nat} {x y : Reply} {rest : List Reply} {r : PortRec} (h : r.replies = x :: y :: rest) :
    r.sentOne d = { r with replies := y :: rest, txDone := some (d + r.rate.byteTime * y.size) } := by
  simp [PortRec.sentOne, h]

theorem exec_sent {d : Nat} (h : s.inReset = false) (hd : (s.port p).txDone = some d) : exec (.replySent p) s =
    .next { s with now := max s.now d, ports := s.ports.set p ((s.port p).sentOne d) } := by
  rw [exec, execReplySent, live_awake h, hd, onExpiry_some]
  rfl

/-- Settles O7: an edge is taken at a free receiver, the byte that has come in is decided by the state of the receiver, and
the gaps and the transmitter follow their moments. -/
theorem bytesMakeFrames : Obligations.BytesMakeFrames := by
  unfold Obligations.BytesMakeFrames
  refine ⟨⟨fun p x lv s h hin => ⟨fun hgap => ?_, fun hgap => ?_, ?_⟩, fun p x lv y last free s h hin hlast hfree =>
    ⟨fun hnow => ?_, fun t ht hnow htr htin => ?_, ?_⟩, fun r => by cases r <;> rfl, fun x => ⟨fun i => ?_, ?_, majority_iff _⟩⟩,
    fun p y lv b framing s r h hin hr => ⟨byteEnds_glitch hin, fun hm hb => ⟨fun hrx => ?_, fun hrx hf => ?_, fun hrx hf => ?_,
      fun n bytes hrx hf => ⟨fun hlen => ?_, fun hlen => ?_⟩⟩⟩,
    fun p s h hrx => ⟨fun hin => ?_, fun y hin hm => ?_⟩, fun p s hrx => ?_, fun p s d r h hd => ⟨fun hq => ?_, fun x rest hq => ?_⟩⟩
  · rw [exec_edge x h, portEdge_free x hin, gapFirst_eq, if_pos hgap]
  · rw [exec_edge x h, portEdge_free x hin, gapFirst_eq, if_neg hgap]
  · simp [exec_byteEnds h, PortRec.byteEndsAt, hin, onExpiry_none]
  · rw [exec_edge x h, portEdge_busy x hin (by rwa [freeFrom_eq, ← hfree])]
  · subst ht
    rw [exec_edge x h, exec_edge x htr, portEdge_decided x hin (by rwa [freeFrom_eq, ← hfree]) htin]
  · have hat : (s.port p).byteEndsAt = some (y.since + last) := by
      rw [PortRec.byteEndsAt, hin, Option.map_some, endsAt_incoming, hlast]
    rw [exec_byteEnds h, hat, onExpiry_some]
    rfl
  · rw [receiveByte, getLsbD_dataByte, majority_iff]
  · rw [receiveByte, Bool.not_eq_false', majority_iff]
  · exact byteEnds_of_none hin hm hb hr (takeByte_hunting b framing hrx)
  · subst hf
    exact byteEnds_of_none hin hm hb hr (takeByte_framing b hrx)
  · subst hf
    exact byteEnds_of_none hin hm hb hr (takeByte_started b hrx)
  · subst hf
    exact byteEnds_of_none hin hm hb hr (takeByte_body b hrx hlen)
  · subst hf
    rw [byteEnds_of_frame hin hm hb hr (takeByte_last b hrx hlen), exec_frame (by simpa using h)]
    rfl
  · have hat := gapAt_eq_some.mpr ⟨hrx, hin, rfl⟩
    rw [exec_gap h, hat, onExpiry_some]
    rfl
  · rw [exec_gap h, gapAt_byte hin hm, onExpiry_none]
  · cases h : s.inReset with
    | true => exact live_asleep h
    | false => rw [exec_gap h, gapAt_hunting hrx, onExpiry_none]
  · rw [exec_sent h hd, sentOne_last hq]
  · rw [exec_sent h hd, sentOne_more hq]
    rfl

end Sys2Proof.Machine
end


section
/-! SUPPORT. Which port, which phase and whose helm a request needs (O8). -/

namespace Sys2Proof.Machine

open Sys2Proof

variable {s : State} {p : Port} {c : Instr} {r : Request}

/-! ## The checks, one by one (R4, R89, R174) -/

theorem bridgeOf_ne_E (hp : p ≠ .E) : ∃ b, bridgeOf p = some b := by
  cases p with
  | L => exact ⟨.L, rfl⟩
  | H => exact ⟨.H, rfl⟩
  | E => exact absurd rfl hp

theorem bridgeInRunning_E (f : Bridge → Act) : bridgeInRunning .E f s = answer .NOT_PERMITTED s := rfl

theorem bridgeInRunning_configuring (f : Bridge → Act) (hp : p ≠ .E) (hrun : s.running = false) :
    bridgeInRunning p f s = answer .BAD_PHASE s := by
  obtain ⟨b, hb⟩ := bridgeOf_ne_E hp
  simp [bridgeInRunning, hb, hrun]

theorem holderOnly_other (f : Act) (hp : p ≠ .E) (hrun : s.running = true)
    (hh : ∀ b, bridgeOf p = some b → s.helm.holder ≠ some b) : holderOnly p f s = answer .NOT_HOLDER s := by
  obtain ⟨b, hb⟩ := bridgeOf_ne_E hp
  rw [holderOnly, bridgeInRunning_on _ ⟨hb, hrun⟩, if_neg (hh b hb)]

theorem fuelPortOnly_bridge (f : Act) (hp : p ≠ .E) : fuelPortOnly p f s = answer .NOT_PERMITTED s := by
  cases p with
  | E => exact absurd rfl hp
  | _ => rfl

theorem inRunning_configuring (f : Act) (hrun : s.running = false) : inRunning f s = answer .BAD_PHASE s := by
  simp [inRunning, hrun]

theorem inConfiguring_running (f : Act) (hrun : s.running = true) : inConfiguring f s = answer .BAD_PHASE s := by
  simp [inConfiguring, hrun]

/-! ## What each request begins with -/

theorem holderOnly_of_request (hc : requestParts c = some r) (h : holderRequest c = true) : ∃ f, r.act = holderOnly r.port f := by
  cases c <;> cases h <;> cases hc <;> exact ⟨_, rfl⟩

theorem bridgeInRunning_of_request (hc : requestParts c = some r) (h : helmRequest c = true ∨ holderRequest c = true) :
    ∃ f, r.act = bridgeInRunning r.port f := by
  rcases h with h | h
  · cases c <;> cases h <;> cases hc <;> exact ⟨_, rfl⟩
  · obtain ⟨f, hf⟩ := holderOnly_of_request hc h
    exact ⟨_, hf⟩

theorem fuelPortOnly_of_request (hc : requestParts c = some r) (h : fuelRequest c = true) : ∃ f, r.act = fuelPortOnly r.port f := by
  cases c <;> cases h <;> cases hc <;> exact ⟨_, rfl⟩

theorem inRunning_of_request (hc : requestParts c = some r) (h : fuelRunningRequest c = true) (hp : r.port = .E) :
    ∃ f, r.act = inRunning f := by
  cases c <;> cases h <;> cases hc <;> cases hp <;> exact ⟨_, rfl⟩

theorem inConfiguring_of_request (hc : requestParts c = some r) (h : configuringRequest c = true) :
    ∃ f, r.act = inConfiguring f := by
  cases c <;> cases h <;> cases hc <;> exact ⟨_, rfl⟩

/-- A request that is refused changes nothing but its port and, from the holder's port, the silence deadline (R17). -/
theorem exec_refused {res : Result} (hc : requestParts c = some r) (hr : Ready r.port s)
    (ha : r.act (holderNotice r.port s) = answer res (holderNotice r.port s)) :
    exec c s = .next ((holderNotice r.port s).reply r.port r.tag res []) := by
  rw [exec_request hc]
  exact request_answered hr ha

/-- Settles O8: each class of requests begins with its own check, before anything else is looked at. -/
theorem permissionPhaseAndHolder : Obligations.PermissionPhaseAndHolder := by
  unfold Obligations.PermissionPhaseAndHolder
  intro c p tag s hfrom hr
  obtain ⟨r, hc, rfl, rfl⟩ := requestParts_of_requestFrom hfrom
  refine ⟨fun h => ?_, fun h hp hrun hh => ?_, fun h hp => ?_, fun h hp hrun => ?_, fun h hrun => ?_⟩
  · obtain ⟨f, hf⟩ := bridgeInRunning_of_request hc h
    refine ⟨fun hp => ?_, fun hp hrun => exec_refused hc hr ?_⟩
    · rw [exec_refused hc hr (by rw [hf, hp]; rfl), hp, notice_E]
    · rw [hf, bridgeInRunning_configuring f hp (by rwa [running_notice])]
  · obtain ⟨f, hf⟩ := holderOnly_of_request hc h
    have hn := notice_other hh
    rw [exec_refused hc hr (by rw [hn, hf, holderOnly_other f hp hrun hh]), hn]
  · obtain ⟨f, hf⟩ := fuelPortOnly_of_request hc h
    exact exec_refused hc hr (by rw [hf, fuelPortOnly_bridge f hp])
  · obtain ⟨f, hf⟩ := inRunning_of_request hc h hp
    rw [exec_refused hc hr (by rw [hf, inRunning_configuring f (by rwa [running_notice])]), hp, notice_E]
  · obtain ⟨f, hf⟩ := inConfiguring_of_request hc h
    exact exec_refused hc hr (by rw [hf, inConfiguring_running f (by rwa [running_notice])])

end Sys2Proof.Machine
end


section
/-! SUPPORT. The helm statements O9, O15, O16 and O17. -/

namespace Sys2Proof.Machine

open Sys2Proof

variable {s : State} {p : Port} {b h : Bridge} {tag : Byte}

/-! ## A free helm (R6, R16) -/

theorem holder_none_of_free (hl : HelmLaw s) (hst : s.helm.state = .UNCLAIMED ∨ s.helm.state = .HOLDING) : s.helm.holder = none := by
  obtain ⟨hholder, -⟩ := hl
  rcases hst with hst | hst <;> simpa [hst] using hholder

theorem decideClaimHelm_free (hb : OnBridge p b s) (hh : s.helm.holder = none) : decideClaimHelm p s = grantTo b s := by
  rw [decideClaimHelm, bridgeInRunning_on _ hb]
  simp only [hh]

theorem decideTakeHelm_free (line : Bool) (hb : OnBridge p b s) (hh : s.helm.holder = none) :
    decideTakeHelm p line s = grantTo b s := by
  rw [decideTakeHelm, bridgeInRunning_on _ hb]
  simp only [hh]

theorem changeHolder_free (hh : s.helm.holder = none) : changeHolder .HELD (some b) s =
    State.post .HELM_CHANGED { s with helm := {
      state := .HELD, holder := some b, requester := none, queryDeadline := none
      silenceDeadline := some (s.now + ms 3000), lastHolder := s.helm.lastHolder, takeOvers := s.helm.takeOvers
      policyL := s.helm.policyL, policyH := s.helm.policyH, decayTimer := none } } := by
  simp [changeHolder, hh, State.after]

/-- Settles O9: without a holder a claim and a take are one thing, the grant. -/
theorem freeHelmIsGranted : Obligations.FreeHelmIsGranted := by
  intro p b tag line c s hr hb hl hst hc
  have hnone := holder_none_of_free hl hst
  have hn := notice_no_holder (p := p) hnone
  rcases hc with rfl | rfl
  · rw [exec_claimHelm]
    exact request_answered hr (by rw [hn, decideClaimHelm_free hb hnone, grantTo, changeHolder_free hnone])
  · rw [exec_takeHelm]
    exact request_answered hr (by rw [hn, decideTakeHelm_free line hb hnone, grantTo, changeHolder_free hnone])

/-! ## A take against the holder (R16) -/

theorem decideTakeHelm_against (line : Bool) (hb : OnBridge p b s) (hst : s.helm.state = .HELD) (hh : s.helm.holder = some h)
    (hne : h ≠ b) : decideTakeHelm p line s =
      if line then takeFrom h b (s.seeTake b line) else answer .NOT_PERMITTED (s.seeTake b line) := by
  rw [decideTakeHelm, bridgeInRunning_on _ hb]
  simp only [hh, if_neg hne, hst, reduceCtorEq, if_false]

@[simp] theorem seeTake_keeps (line : Bool) : (s.seeTake b line).helm = s.helm ∧ (s.seeTake b line).now = s.now := by
  cases b <;> exact ⟨rfl, rfl⟩

theorem takeFrom_of_holder (hh : s.helm.holder = some h) : takeFrom h b s = (State.postTo (portOfBridge h) .HELM_TAKEN
    (State.post .HELM_CHANGED { s with
      helm := { s.helm.passedTo b h s.now with takeOvers := min 65535 (s.helm.takeOvers + 1) } }), .answered .GRANTED []) := by
  have hpass := changeHolder_passed (r := b)
    (s := { s with helm := { s.helm with takeOvers := bump16 s.helm.takeOvers } }) hh
  simp only [takeFrom, hpass]
  rfl

/-- Settles O15: by the level of the line; the requester's take finds its slot taken. -/
theorem takeHelm : Obligations.TakeHelm := by
  refine ⟨fun p b h tag s hr hb hst hh hne => ⟨?asserted, ?deasserted⟩, ?busy⟩
  case asserted =>
    rw [exec_takeHelm]
    refine request_by_other hr hb.1 (by simpa [hh] using hne) ?_
    rw [decideTakeHelm_against true hb hst hh hne, if_pos rfl, takeFrom_of_holder (by simpa using hh)]
    simp only [seeTake_keeps]
  case deasserted =>
    rw [exec_takeHelm]
    refine request_by_other hr hb.1 (by simpa [hh] using hne) ?_
    rw [decideTakeHelm_against false hb hst hh hne, if_neg Bool.false_ne_true]
    rfl
  case busy =>
    rintro b r p x tag line s hreset hq rfl hlen
    have ⟨_, _, _, _, hslot⟩ := hq
    rw [exec_takeHelm]
    exact request_busy hreset hlen hslot (by decide) (notice_requester hq)

/-! ## SET_YIELD_POLICY and SET_ORDER (R5, R21) -/

theorem policyOf_ge {x : Byte} (hx : 3 ≤ x.toNat) : policyOf x = none := by
  unfold policyOf
  split <;> simp_all

theorem modeOf_ge {x : Byte} (hx : 3 ≤ x.toNat) : modeOf x = none := by
  unfold modeOf
  split <;> simp_all

theorem modeOf_le {x : Byte} (hx : x.toNat ≤ 2) : ∃ m, modeOf x = some m := by
  interval_cases h : x.toNat <;> simp [modeOf, h]

theorem decideSetYieldPolicy_of_policy {x : Byte} {y : YieldPolicy} (hb : OnBridge p b s) (hy : policyOf x = some y) :
    decideSetYieldPolicy p x s = doneWith (setPolicy b y) s := by
  rw [decideSetYieldPolicy, bridgeInRunning_on _ hb, hy, orElse]

theorem decideSetYieldPolicy_badValue {x : Byte} (hb : OnBridge p b s) (hx : 3 ≤ x.toNat) :
    decideSetYieldPolicy p x s = answer .BAD_VALUE s := by
  rw [decideSetYieldPolicy, bridgeInRunning_on _ hb, policyOf_ge hx, orElse]

theorem decideSetOrder_of_mode {thrust turn : Half} {mode : Byte} {m : Mode} (hb : OnBridge p b s) (hm : modeOf mode = some m) :
    decideSetOrder p thrust turn mode s =
      if s.helm.holder = some b then writeOrder thrust turn m s else answer .NOT_HOLDER s := by
  rw [decideSetOrder, bridgeInRunning_on _ hb, hm, orElse]

theorem decideSetOrder_badValue {thrust turn : Half} {mode : Byte} (hb : OnBridge p b s) (hm : 3 ≤ mode.toNat) :
    decideSetOrder p thrust turn mode s = answer .BAD_VALUE s := by
  rw [decideSetOrder, bridgeInRunning_on _ hb, modeOf_ge hm, orElse]

theorem clampDemand_eq (v : Half) : clampDemand v = max (-1000) (min 1000 v.toInt) := rfl

theorem clampDemand_eq_iff (v : Half) : clampDemand v = v.toInt ↔ -1000 ≤ v.toInt ∧ v.toInt ≤ 1000 := by
  rw [clampDemand_eq]
  omega

theorem exec_setYieldPolicy (x : Byte) : exec (.setYieldPolicy p tag x) s = request p tag 0x06 (decideSetYieldPolicy p x) s := rfl

theorem exec_setOrder (thrust turn : Half) (mode : Byte) :
    exec (.setOrder p tag thrust turn mode) s = request p tag 0x07 (decideSetOrder p thrust turn mode) s := rfl

/-- Settles O16, by the value of the policy or mode and by who holds the helm. -/
theorem yieldPolicyAndOrder : Obligations.YieldPolicyAndOrder := by
  refine ⟨fun p b tag y s hr hb => ?_, fun p b tag thrust turn m s hr hh => ?_,
    fun p b tag policy mode thrust turn s hr hb => ⟨fun hx => ?_, fun hx => ?_, fun hx hh => ?_⟩⟩
  · rw [exec_setYieldPolicy]
    refine request_answered hr ?_
    rw [decideSetYieldPolicy_of_policy (onBridge_notice p hb) (policyOf_code y)]
    cases b <;> rfl
  · rw [exec_setOrder]
    refine request_by_holder hr hh ?_
    rw [decideSetOrder_of_mode (holdsHelm_heard hh).1 (modeOf_code m), if_pos (holdsHelm_heard hh).2, writeOrder]
    simp only [clampDemand_eq_iff, and_assoc]
    rfl
  · rw [exec_setYieldPolicy]
    exact request_answered hr (decideSetYieldPolicy_badValue (onBridge_notice p hb) hx)
  · rw [exec_setOrder]
    exact request_answered hr (decideSetOrder_badValue (onBridge_notice p hb) hx)
  · obtain ⟨m, hm⟩ := modeOf_le hx
    rw [exec_setOrder]
    exact request_by_other hr hb.1 hh (by rw [decideSetOrder_of_mode hb hm, if_neg hh]; rfl)

/-! ## Deadlines and the decay timer (R12 to R14, R18, R19) -/

theorem queryOpen_reach {r : Bridge} {x : Slot} (n : Nat) (hq : QueryOpen b r x s) : QueryOpen b r x (s.reach n) := hq

theorem decay_eq (v : Int) : decay v = if -5 ≤ v ∧ v ≤ 5 then 0 else if 0 < v then v - 5 else v + 5 := by
  unfold decay
  rcases lt_trichotomy v 0 with hv | rfl | hv
  · rw [Int.sign_eq_neg_one_of_neg hv]
    split <;> split <;> omega
  · rfl
  · rw [Int.sign_eq_one_of_pos hv]
    split <;> split <;> omega

theorem holderSilent_held (hst : s.helm.state = .HELD) (hh : s.helm.holder = some b) : holderSilent s =
    State.post .HELM_SILENT (State.post .HELM_CHANGED { s with
      helm := { state := .HOLDING, holder := none, requester := none, queryDeadline := none, silenceDeadline := none
                lastHolder := some b, takeOvers := s.helm.takeOvers, policyL := s.helm.policyL
                policyH := s.helm.policyH, decayTimer := some (s.now + ms 100) } }) := by
  simp [holderSilent, hst, changeHolder, hh, State.after]

/-- An expiry whose deadline is absent does not occur, in full reset or out of it. -/
theorem exec_absent {d : State → Option Nat} {f : Nat → State → State} (hd : d s = none) :
    live s (fun s => onExpiry (d s) f s) = .next s := by
  rw [live_eq, hd, onExpiry_none, ite_self]

/-- Settles O17: each expiry moves the clock and does what the state of the helm says. -/
theorem helmExpiries : Obligations.HelmExpiries := by
  refine ⟨fun b r x d s hreset hq => ⟨fun hd => ?_, fun hd => ?_⟩, fun b d s hreset hst hh hd => ?_,
    fun d s hreset hd => ?_, fun s => ⟨exec_absent (d := fun s => s.helm.queryDeadline), exec_absent (d := fun s => s.helm.silenceDeadline),
      exec_absent (d := fun s => s.helm.decayTimer)⟩⟩
  · rw [exec, execQueryDeadlineExpiry, live_awake hreset, hd, onExpiry_some, answerClaim_endQuery _ (queryOpen_reach d hq)]
    rfl
  · have hst := (queryOpen_reach d hq).1
    rw [exec, execSilenceDeadlineExpiry, live_awake hreset, hd, onExpiry_some, holderSilent, if_pos hst,
      grantRequester_of_queryOpen (queryOpen_reach d hq)]
    rfl
  · rw [exec, execSilenceDeadlineExpiry, live_awake hreset, hd, onExpiry_some,
      holderSilent_held (s := s.reach d) hst hh]
    rfl
  · rw [exec, execDecayTimerExpiry, live_awake hreset, hd, onExpiry_some, decayStep, decay_eq]
    rfl

end Sys2Proof.Machine
end


section
/-! SUPPORT. A pass of the allocator and the fields of its record (O18). -/

namespace Sys2Proof.Machine

open Sys2Proof

variable {s : State}

/-! ## Sums over the slots (R32, R36) -/

theorem sumSlots_eq (f : Fin 8 → Nat) : sumSlots f = ((List.finRange 8).map f).sum := by
  rw [sumSlots, List.sum_eq_foldl, List.foldl_map]

theorem sumSlotsInt_eq (f : Fin 8 → Int) : sumSlotsInt f = ((List.finRange 8).map f).sum := by
  rw [sumSlotsInt, List.sum_eq_foldl, List.foldl_map]

theorem isAhead_iff (e : Engine) : e.isAhead = true ↔ e.configured = true ∧ e.cfg.axis = .AHEAD := by simp [Engine.isAhead]

theorem fills_iff (e : Engine) : e.fills = true ↔ e.configured = true ∧ e.cfg.axis = .AHEAD ∧ e.eligible = true := by
  simp [Engine.fills, isAhead_iff, and_assoc]

theorem thrusts_iff (e : Engine) : e.thrusts = true ↔ e.configured = true ∧ e.cfg.axis = .LATERAL ∧ e.eligible = true := by
  simp [Engine.thrusts, and_assoc]

theorem weightOf_isAhead (v : Vector Engine 8) : weightOf v Engine.isAhead = ((List.finRange 8).map fun i =>
    if v[i].configured = true ∧ v[i].cfg.axis = .AHEAD then v[i].cfg.weight else 0).sum := by
  simp only [weightOf, sumSlots_eq, isAhead_iff]

theorem weightOf_fills (v : Vector Engine 8) : weightOf v Engine.fills = ((List.finRange 8).map fun i =>
    if v[i].configured = true ∧ v[i].cfg.axis = .AHEAD ∧ v[i].eligible = true then v[i].cfg.weight else 0).sum := by
  simp only [weightOf, sumSlots_eq, fills_iff]

/-! ## The two records (R30, R31) -/

theorem passRecord_stop (h : s.order.mode = .STOP) : passRecord s = stopRecord s := if_pos h

theorem passRecord_drive (h : s.order.mode ≠ .STOP) : passRecord s = driveRecord s := if_neg h

/-- The record of a pass takes nothing from the clock and the timer. -/
theorem passRecord_retimed (now : Nat) (timer : Option Nat) : passRecord { s with now := now, passTimer := timer } = passRecord s := rfl

/-! ## Gains and shares (R38 to R42) -/

theorem mainUsable_iff (st : Station) : s.mainUsable st = true ↔ ∃ i : Fin 8, s.rudders[i].configured = true
    ∧ s.rudders[i].cfg.kind = .MAIN ∧ s.rudders[i].cfg.station = st ∧ s.rudders[i].state = .ONLINE := by
  simp only [State.mainUsable, List.any_eq_true, Bool.and_eq_true, decide_eq_true_eq, and_assoc, Vector.mem_toList_iff,
    Vector.mem_iff_getElem]
  constructor
  · rintro ⟨r, ⟨i, hi, rfl⟩, h⟩
    exact ⟨⟨i, hi⟩, h⟩
  · rintro ⟨i, h⟩
    exact ⟨_, ⟨i.val, i.isLt, rfl⟩, h⟩

theorem gainFor_eq (st : Station) (h : s.order.mode ≠ .STOP) : s.gainFor s.order.mode st =
    if s.order.mode = .MANOEUVRE then s.params.diffGain
    else if ∃ i : Fin 8, s.rudders[i].configured = true ∧ s.rudders[i].cfg.kind = .MAIN
        ∧ s.rudders[i].cfg.station = st ∧ s.rudders[i].state = .ONLINE then 0
    else s.params.fallbackGain := by
  simp only [← mainUsable_iff]
  cases hm : s.order.mode with
  | STOP => exact absurd hm h
  | TRANSIT => simp [State.gainFor]
  | MANOEUVRE => simp [State.gainFor]

theorem lateralShare_eq (m : Mode) (u : Int) (g : Nat) :
    lateralShare m u g = if m = .MANOEUVRE then (u * g).tdiv 1000 else 0 := by
  cases m <;> rfl

theorem factor_mul (sd : Side) (x : Int) :
    sd.factor * x = if sd = .PORT then x else if sd = .STARBOARD then -x else 0 := by
  cases sd <;> simp [Side.factor]

theorem threshold_eq (t : Nat) (x : Int) : threshold t x = if t ≤ x.natAbs then x else 0 := by
  simp only [threshold, ← Nat.not_lt, ite_not]

/-- R39 to R42: the share of a slot, from its fill and its caps. -/
theorem finalShare_eq (q : Params) (u lateral : Int) (gains : PerStation Nat) (filled : Int) (e : Engine) :
    e.finalShare q u lateral gains filled =
      if e.configured = true ∧ e.eligible = true then threshold q.engageThreshold (e.clampShare
        (if e.cfg.axis = .LATERAL then lateral
          else filled + e.cfg.side.factor * turnPart u (gains.get e.cfg.station))) else 0 := by
  simp only [Engine.finalShare, fills_iff, thrusts_iff]
  cases hc : e.configured <;> cases he : e.eligible <;> cases ha : e.cfg.axis <;> simp

theorem clampShare_eq (e : Engine) (x : Int) : e.clampShare x = max (-(e.asternCap : Int)) (min e.aheadCap x) := rfl

theorem runPass_eq (s : State) : runPass s = (fun t => if s.alloc.deficit = 0 ∧ (passRecord s).deficit ≠ 0
      then State.post .THRUST_DEFICIT t else t) { s with
    alloc := passRecord s
    engineResult := some (passRecord s).shares
    rudderResult := some { uLim := (passRecord s).uLim, gains := (passRecord s).gains, mode := (passRecord s).mode
                           passNumber := (passRecord s).passNumber } } := by
  simp only [runPass, State.postIf, Bool.and_eq_true, decide_eq_true_eq]

/-- Settles O18: the expiry runs one pass, and the record of a pass is that of its mode. -/
theorem passesOfTheAllocator : Obligations.PassesOfTheAllocator := by
  refine ⟨⟨fun d s t h hd ht => ?_, fun s hd => exec_absent (d := State.passTimer) hd⟩, fun s => ?_, fun s h => ?_,
    fun s f h hf => ?_⟩
  · subst ht
    rw [exec, execPassTimerExpiry, live_awake h, hd, onExpiry_some, runPass_eq]
    rfl
  · rw [← weightOf_isAhead, ← weightOf_fills]
    by_cases h : s.order.mode = .STOP
    · rw [passRecord_stop h]
      exact ⟨rfl, rfl, rfl, h.symm, rfl, rfl⟩
    · rw [passRecord_drive h]
      exact ⟨rfl, rfl, rfl, rfl, rfl, rfl⟩
  · rw [passRecord_stop h]
    refine ⟨rfl, rfl, rfl, fun i => slot_replicate _ i, fun st => by cases st <;> rfl, rfl, rfl⟩
  · rw [passRecord_drive h] at hf ⊢
    refine ⟨rfl, rfl, by rw [hf]; rfl, ?_, fun st => ?_, ?_, fun i e turn before after he ht hb ha => ?_⟩
    · rw [← sumSlotsInt_eq, hf]
      rfl
    · rw [← gainFor_eq st h]
      cases st <;> rfl
    · exact lateralShare_eq ..
    · subst he
      have hshare : (driveRecord s).shares[i] = s.engines[i].finalShare s.params (driveRecord s).uLim (driveRecord s).lateral
          (driveRecord s).gains (f.share s.engines i) := by
        rw [hf]
        exact slot_ofFn _ i
      have hafter : after = s.engines[i].clampShare (if s.engines[i].cfg.axis = .LATERAL then (driveRecord s).lateral
          else f.share s.engines i + s.engines[i].cfg.side.factor
            * turnPart (driveRecord s).uLim ((driveRecord s).gains.get s.engines[i].cfg.station)) := by
        rw [ha, hb, ht, clampShare_eq, factor_mul]
        rfl
      rw [hshare, finalShare_eq, ← hafter, threshold_eq, ← ite_and]
      simp only [and_assoc]

end Sys2Proof.Machine
end


section
/-! SUPPORT. The water-fill (R33 to R35) and the caps of the shares (O19). -/

namespace Sys2Proof.Machine

open Sys2Proof

variable {v : Vector Engine 8} {d : Int} {f : Fill}

/-! ## Sums over the slots -/

theorem sumSlots_eq_sum (f : Fin 8 → Nat) : sumSlots f = ∑ i, f i := by rw [sumSlots_eq, Fin.sum_univ_def]

theorem weightOf_eq_sum (h : Engine → Bool) : weightOf v h = ∑ i : Fin 8, if h v[i] then v[i].cfg.weight else 0 := sumSlots_eq_sum _

/-! ## The engines that are not yet fixed -/

/-- R34: an engine that takes part in the water-fill and is not yet fixed. -/
def Fill.isFree (v : Vector Engine 8) (f : Fill) (i : Fin 8) : Bool := v[i].fills && decide (f.fixed[i] = none)

/-- The engines that are not yet fixed, and how many they are. -/
def Fill.freeSlots (v : Vector Engine 8) (f : Fill) : Finset (Fin 8) := Finset.univ.filter fun i => f.isFree v i = true

theorem isFree_iff (i : Fin 8) : f.isFree v i = true ↔ v[i].fills = true ∧ f.fixed[i] = none := by simp [Fill.isFree]

theorem mem_freeSlots (i : Fin 8) : i ∈ f.freeSlots v ↔ f.isFree v i = true := by simp [Fill.freeSlots]

/-- R34: a round fixes those not yet fixed whose cap is less than the common share. -/
theorem fixes_iff (p : Int) (i : Fin 8) :
    f.fixes v d p i = true ↔ f.isFree v i = true ∧ v[i].directionCap d < p.natAbs := by
  simp [Fill.fixes, Fill.isFree]

theorem fixed_round (i : Fin 8) : (f.round v d).fixed[i] =
    if f.fixes v d (f.round v d).p i = true then some (d.sign * (v[i].directionCap d : Nat)) else f.fixed[i] := slot_ofFn _ i

theorem isFree_round (i : Fin 8) :
    (f.round v d).isFree v i = (f.isFree v i && !f.fixes v d (f.round v d).p i) := by
  rw [Bool.eq_iff_iff, Bool.and_eq_true, isFree_iff, isFree_iff, fixed_round]
  cases f.fixes v d (f.round v d).p i <;> simp

/-! ## What every round keeps -/

/-- R34: between two rounds the demand that remains has the sign of the demand or is 0, the weight that remains is that of
the engines not yet fixed, and a fixed engine has its cap as its share. -/
structure Fill.Fits (v : Vector Engine 8) (d : Int) (f : Fill) : Prop where
  demand : ∃ m : Nat, f.dRem = d.sign * m
  weight : f.wRem = ∑ i : Fin 8, if f.isFree v i then v[i].cfg.weight else 0
  fixed : ∀ (i : Fin 8) (x : Int), f.fixed[i] = some x → x = d.sign * (v[i].directionCap d : Nat)

/-- The common share of a round has the sign of the demand, and its size times the weight that remains is at most the
demand that remains. -/
theorem Fill.Fits.p_round (h : f.Fits v d) {m : Nat} (hm : f.dRem = d.sign * m) :
    (f.round v d).p = d.sign * (m / f.wRem : Nat) := by
  change f.dRem.tdiv f.wRem = _
  rw [hm]
  rcases lt_trichotomy d 0 with hd | rfl | hd
  · rw [Int.sign_eq_neg_one_of_neg hd, Int.neg_one_mul, Int.neg_one_mul, Int.neg_tdiv]
    rfl
  · simp
  · rw [Int.sign_eq_one_of_pos hd, one_mul, one_mul]
    rfl

theorem natAbs_sign_le_one (x : Int) : x.sign.natAbs ≤ 1 := by
  rw [Int.natAbs_sign]
  split <;> omega

/-- What a round takes from the demand is no more than what remains. -/
theorem taken_le (w : Fin 8 → Nat) (cap : Fin 8 → Nat) (free fix : Fin 8 → Bool) (q : Nat)
    (hfix : ∀ i, fix i = true → free i = true ∧ cap i < q) :
    (∑ i, if fix i then w i * cap i else 0) ≤ (∑ i, if free i then w i else 0) * q := by
  rw [Finset.sum_mul]
  refine Finset.sum_le_sum fun i _ => ?_
  cases hi : fix i with
  | false => simp
  | true =>
    obtain ⟨hfree, hcap⟩ := hfix i hi
    simpa [hfree] using Nat.mul_le_mul_left (w i) hcap.le

theorem dRem_round : (f.round v d).dRem = f.dRem - d.sign * (∑ i : Fin 8,
    if f.fixes v d (f.round v d).p i then v[i].cfg.weight * v[i].directionCap d else 0 : Nat) := by
  rw [← sumSlots_eq_sum]
  rfl

theorem wRem_round : (f.round v d).wRem =
    f.wRem - ∑ i : Fin 8, if f.fixes v d (f.round v d).p i then v[i].cfg.weight else 0 := by
  rw [← sumSlots_eq_sum]
  rfl

/-- The engines free before a round are those free after it and those it fixes. -/
theorem weight_split : (∑ i : Fin 8, if f.isFree v i then v[i].cfg.weight else 0) =
    (∑ i : Fin 8, if (f.round v d).isFree v i then v[i].cfg.weight else 0)
      + ∑ i : Fin 8, if f.fixes v d (f.round v d).p i then v[i].cfg.weight else 0 := by
  rw [← Finset.sum_add_distrib]
  refine Finset.sum_congr rfl fun i _ => ?_
  have hfree : f.fixes v d (f.round v d).p i = true → f.isFree v i = true := fun hi => ((fixes_iff _ i).mp hi).1
  rw [isFree_round]
  cases hfix : f.fixes v d (f.round v d).p i with
  | true => simp [hfree hfix]
  | false => simp

theorem Fill.Fits.round (h : f.Fits v d) : (f.round v d).Fits v d := by
  obtain ⟨m, hm⟩ := h.demand
  have hp := h.p_round hm
  have hq : (f.round v d).p.natAbs ≤ m / f.wRem := by
    rw [hp, Int.natAbs_mul, Int.natAbs_natCast]
    exact (Nat.mul_le_mul_right _ (natAbs_sign_le_one d)).trans (one_mul _).le
  refine ⟨?demand, ?weight, fun i x hx => ?fixed⟩
  case demand =>
    have htaken := taken_le (fun i => v[i].cfg.weight) (fun i => v[i].directionCap d) (f.isFree v)
      (f.fixes v d (f.round v d).p) (m / f.wRem) fun i hi => by
        obtain ⟨hfree, hcap⟩ := (fixes_iff _ i).mp hi
        exact ⟨hfree, hcap.trans_le hq⟩
    rw [← h.weight] at htaken
    have hle := htaken.trans (Nat.mul_div_le m f.wRem)
    exact ⟨_, by rw [dRem_round, hm, ← mul_sub, ← Nat.cast_sub hle]⟩
  case weight =>
    rw [wRem_round]
    exact Nat.sub_eq_of_eq_add (h.weight.trans weight_split)
  case fixed =>
    rw [fixed_round] at hx
    split at hx
    · exact (Option.some.inj hx).symm
    · exact h.fixed i x hx

/-! ## The rounds come to an end -/

/-- A round that does not leave the fixed engines as they were leaves fewer free. -/
theorem freeSlots_round_lt (h : (f.round v d).fixed ≠ f.fixed) : ((f.round v d).freeSlots v).card < (f.freeSlots v).card := by
  refine Finset.card_lt_card ((Finset.ssubset_iff_of_subset fun i hi => ?_).mpr ?_)
  · rw [mem_freeSlots, isFree_round, Bool.and_eq_true] at hi
    rw [mem_freeSlots]
    exact hi.1
  · by_contra hno
    refine h (Vector.ext fun i hi => ?_)
    have hfix : f.fixes v d (f.round v d).p ⟨i, hi⟩ = false := by
      by_contra hfix
      rw [Bool.not_eq_false] at hfix
      refine hno ⟨⟨i, hi⟩, (mem_freeSlots _).mpr ((fixes_iff _ _).mp hfix).1, ?_⟩
      rw [mem_freeSlots, isFree_round, hfix]
      simp
    have hi' := fixed_round (v := v) (d := d) (f := f) ⟨i, hi⟩
    rw [hfix, if_neg Bool.false_ne_true] at hi'
    exact hi'

theorem free_of_wRem (h : f.Fits v d) (hw : f.wRem ≠ 0) : 0 < (f.freeSlots v).card := by
  rw [Finset.card_pos]
  by_contra hno
  refine hw (h.weight.trans (Finset.sum_eq_zero fun i _ => if_neg fun hi => hno ⟨i, (mem_freeSlots i).mpr hi⟩))

theorem run_succ (n : Nat) : Fill.run v d (n + 1) f =
    if (f.round v d).fixed = f.fixed ∨ (f.round v d).wRem = 0 then f.round v d else Fill.run v d n (f.round v d) := rfl

/-- R34, item 3: as many rounds as there are free engines are enough. -/
theorem run_enough (n : Nat) (h : f.Fits v d) (hw : f.wRem ≠ 0) (hn : (f.freeSlots v).card ≤ n) :
    Fill.run v d (n + 1) f = Fill.run v d n f := by
  induction n generalizing f with
  | zero => exact absurd (free_of_wRem h hw) (by omega)
  | succ n ih =>
    rw [run_succ (f := f) (n + 1), run_succ (f := f) n]
    by_cases hstop : (f.round v d).fixed = f.fixed ∨ (f.round v d).wRem = 0
    · rw [if_pos hstop, if_pos hstop]
    · rw [if_neg hstop, if_neg hstop]
      obtain ⟨hfixed, hleft⟩ := not_or.mp hstop
      exact ih h.round hleft (by have := freeSlots_round_lt hfixed; omega)

/-- R33: as the water-fill begins. -/
def Fill.start (d : Int) (w : Nat) : Fill := { fixed := Vector.replicate 8 none, dRem := d, wRem := w, p := 0, rounds := 0 }

theorem waterFill_eq (w : Nat) : waterFill v d w = if w = 0 then Fill.start d w else Fill.run v d 8 (Fill.start d w) := rfl

theorem fits_start : (Fill.start d (weightOf v Engine.fills)).Fits v d := by
  refine ⟨⟨d.natAbs, (Int.sign_mul_natAbs d).symm⟩, ?_, fun i x hx => ?_⟩
  · have hfree : ∀ i, (Fill.start d (weightOf v Engine.fills)).isFree v i = v[i].fills := fun i => by
      simp only [Fill.isFree, Fill.start, slot_replicate, decide_true, Bool.and_true]
    simp only [hfree]
    exact weightOf_eq_sum _
  · change (Vector.replicate 8 none)[i] = some x at hx
    rw [slot_replicate] at hx
    cases hx

theorem run_eight (hw : 0 < weightOf v Engine.fills) (n : Nat) (hn : 8 ≤ n) :
    Fill.run v d n (Fill.start d (weightOf v Engine.fills)) = Fill.run v d 8 (Fill.start d (weightOf v Engine.fills)) := by
  induction n, hn using Nat.le_induction with
  | base => rfl
  | succ n hn ih =>
    rw [← ih]
    exact run_enough n fits_start hw.ne' ((Finset.card_le_univ _).trans (by simpa using hn))

/-! ## Where the rounds end -/

/-- R35: after a round the common share has the sign of the demand and is within the cap of every engine still free. -/
structure Fill.Shared (v : Vector Engine 8) (d : Int) (f : Fill) : Prop extends f.Fits v d where
  common : ∃ q : Nat, f.p = d.sign * q ∧ ∀ i : Fin 8, f.isFree v i = true → q ≤ v[i].directionCap d

theorem sign_mul_natAbs_self (d : Int) (n : Nat) : d.sign * (d.sign * (n : Int)).natAbs = d.sign * n := by
  rcases lt_trichotomy d 0 with hd | rfl | hd
  · rw [Int.sign_eq_neg_one_of_neg hd]
    simp
  · simp
  · rw [Int.sign_eq_one_of_pos hd]
    simp

theorem Fill.Fits.shared_round (h : f.Fits v d) : (f.round v d).Shared v d := by
  obtain ⟨m, hm⟩ := h.demand
  refine ⟨h.round, (f.round v d).p.natAbs, ?_, fun i hi => ?_⟩
  · rw [h.p_round hm, sign_mul_natAbs_self]
  · rw [isFree_round, Bool.and_eq_true, Bool.not_eq_true'] at hi
    obtain ⟨hfree, hfix⟩ := hi
    by_contra hlt
    rw [(fixes_iff _ i).mpr ⟨hfree, Nat.not_le.mp hlt⟩] at hfix
    cases hfix

theorem shared_run (n : Nat) (h : f.Fits v d) : (Fill.run v d (n + 1) f).Shared v d := by
  induction n generalizing f with
  | zero =>
    rw [run_succ]
    exact (ite_self _).symm ▸ h.shared_round
  | succ n ih =>
    rw [run_succ]
    split
    · exact h.shared_round
    · exact ih h.round

theorem rounds_run (n : Nat) : (Fill.run v d n f).rounds ≤ f.rounds + n := by
  induction n generalizing f with
  | zero => exact Nat.le_refl _
  | succ n ih =>
    rw [run_succ]
    split
    · exact Nat.add_le_add_left (Nat.succ_le_succ (Nat.zero_le n)) _
    · exact ih.trans (by rw [show (f.round v d).rounds = f.rounds + 1 from rfl]; omega)

/-- R33, R34: what the water-fill ends with, whether a round is run or none. -/
theorem shared_waterFill : (waterFill v d (weightOf v Engine.fills)).Fits v d
    ∧ (weightOf v Engine.fills ≠ 0 → (waterFill v d (weightOf v Engine.fills)).Shared v d) := by
  rw [waterFill_eq]
  split
  · exact ⟨fits_start, fun h => absurd ‹_› h⟩
  · exact ⟨(shared_run 7 fits_start).toFits, fun _ => shared_run 7 fits_start⟩

/-- A demand of 0 ends after one round: no cap is less than 0. -/
theorem rounds_of_zero (n : Nat) (h : f.Fits v 0) : (Fill.run v 0 (n + 1) f).rounds = f.rounds + 1 := by
  obtain ⟨m, hm⟩ := h.demand
  have hp : (f.round v 0).p = 0 := by rw [h.p_round hm]; simp
  have hfixed : (f.round v 0).fixed = f.fixed := Vector.ext fun i hi => by
    have hi' := fixed_round (v := v) (d := 0) (f := f) ⟨i, hi⟩
    rw [if_neg (by rw [fixes_iff, hp]; simp)] at hi'
    exact hi'
  rw [run_succ, if_pos (.inl hfixed)]
  rfl

theorem weight_of_fills (hpos : ∀ i : Fin 8, v[i].fills = true → 1 ≤ v[i].cfg.weight) {i : Fin 8} (hi : v[i].fills = true) :
    weightOf v Engine.fills ≠ 0 := by
  rw [weightOf_eq_sum]
  intro hzero
  have hi' := Finset.sum_eq_zero_iff.mp hzero i (Finset.mem_univ i)
  rw [if_pos hi] at hi'
  have := hpos i hi
  omega

/-- R35: the share of an engine that takes part has the sign of the demand and is within its direction cap. -/
theorem share_bounds (h : f.Shared v d) {i : Fin 8} (hi : v[i].fills = true) :
    (∃ n : Nat, f.share v i = d.sign * n ∧ n ≤ v[i].directionCap d)
      ∧ (f.share v i = f.p ∨ f.share v i = d.sign * (v[i].directionCap d : Nat)) := by
  have hshare : f.share v i = f.fixed[i].getD f.p := if_pos hi
  rw [hshare]
  cases hfix : f.fixed[i] with
  | none =>
    obtain ⟨q, hp, hcap⟩ := h.common
    exact ⟨⟨q, hp, hcap i ((isFree_iff i).mpr ⟨hi, hfix⟩)⟩, .inl rfl⟩
  | some x =>
    have hx := h.fixed i x hfix
    exact ⟨⟨_, hx, Nat.le_refl _⟩, .inr hx⟩

/-! ## The caps of the final shares (R31, R39 to R42) -/

theorem limit_natAbs (demand : Int) (ceiling : Nat) : (limit demand ceiling).natAbs ≤ ceiling := by
  rw [limit, Int.natAbs_mul, Int.natAbs_natCast]
  exact (Nat.mul_le_mul_right _ (natAbs_sign_le_one demand)).trans (by omega)

theorem finalShare_bounds (q : Params) (u lateral : Int) (gains : PerStation Nat) (filled : Int) (e : Engine) {x : Int}
    (hx : x = e.finalShare q u lateral gains filled) :
    -(e.asternCap : Int) ≤ x ∧ x ≤ e.aheadCap ∧ ((e.configured = false ∨ e.eligible = false) → x = 0)
      ∧ (x ≠ 0 → q.engageThreshold ≤ x.natAbs) := by
  rw [finalShare_eq, threshold_eq, clampShare_eq] at hx
  generalize (if e.cfg.axis = .LATERAL then lateral else _) = y at hx
  split at hx
  · rename_i hon
    refine ⟨?_, ?_, fun hoff => ?_, fun hne => ?_⟩
    · split at hx <;> omega
    · split at hx <;> omega
    · obtain ⟨hc, he⟩ := hon
      rw [hc, he] at hoff
      simp at hoff
    · split at hx
      · rw [hx]
        assumption
      · exact absurd hx hne
  · exact ⟨by omega, by omega, fun _ => hx, fun hne => absurd hx hne⟩

/-- Settles O19: the rounds keep `Fits`, each round that goes on fixes one more engine, and the record clamps each share. -/
theorem sharesKeepCaps : Obligations.SharesKeepCaps := by
  refine ⟨fun v d w f hf => ⟨fun hw => ?_, fun hw => ?_, fun _ hwt hw n hn => ?_⟩, fun v d n f g hg => ?_,
    fun v d f cap now hcap hnow => ⟨?_, fun i => ?_⟩, fun v d f hpos hf => ⟨?_, fun hw => ?_, fun hd hw => ?_, fun i =>
      ⟨fun hi => ?_, fun hi => ?_⟩⟩, fun s => ⟨?_, ?_, fun i => ?_⟩⟩
  · rw [waterFill_eq, if_pos hw, hf]
    rfl
  · rw [waterFill_eq, if_neg hw.ne', hf]
    rfl
  · subst hf hwt
    exact run_eight hw n hn
  · rw [hg]
    exact run_succ n
  · have hcap' : ∀ i : Fin 8, v[i].directionCap d = cap i := fun i => (hcap i).symm
    have hfix : ∀ i, f.fixes v d (f.dRem.tdiv f.wRem) i = now i := fun i => by
      rw [Bool.eq_iff_iff, fixes_iff, isFree_iff, fills_iff, hnow i, hcap' i, and_assoc]
    rw [Fill.round]
    simp only [hfix, hcap', sumSlots_eq]
  · simp only [Fill.share, fills_iff]
  · rw [hf, waterFill_eq]
    split
    · exact Nat.zero_le 8
    · exact (rounds_run 8).trans (Nat.le_refl 8)
  · rw [hf, waterFill_eq, if_pos hw, Fill.start]
  · subst hd
    rw [hf, waterFill_eq, if_neg hw.ne', rounds_of_zero 7 fits_start, Fill.start]
  · rw [Fill.share, hi, if_neg Bool.false_ne_true]
  · have hshared : f.Shared v d := hf ▸ shared_waterFill.2 (weight_of_fills hpos hi)
    obtain ⟨⟨n, hn, hcap⟩, hwhich⟩ := share_bounds hshared hi
    refine ⟨fun hd => ?_, fun hd => ?_, fun hd => ?_, hwhich⟩
    · rw [Int.sign_eq_one_of_pos hd] at hn
      rw [Engine.directionCap, if_neg (not_lt.mpr hd.le)] at hcap
      omega
    · rw [Int.sign_eq_neg_one_of_neg hd] at hn
      rw [Engine.directionCap, if_pos hd] at hcap
      omega
    · rw [hn, hd, Int.sign_zero, zero_mul]
  · by_cases h : s.order.mode = .STOP
    · rw [passRecord_stop h]
      exact Nat.zero_le _
    · rw [passRecord_drive h]
      exact limit_natAbs _ _
  · by_cases h : s.order.mode = .STOP
    · rw [passRecord_stop h]
      exact Nat.zero_le _
    · rw [passRecord_drive h]
      exact limit_natAbs _ _
  · by_cases h : s.order.mode = .STOP
    · have hzero : (passRecord s).shares[i] = 0 := by
        rw [passRecord_stop h]
        exact slot_replicate _ i
      rw [hzero]
      exact ⟨by omega, by omega, fun _ => rfl, fun h => absurd rfl h⟩
    · obtain ⟨q, u, lateral, gains, filled, hq, hshare⟩ : ∃ q u lateral gains filled, q = s.params
          ∧ (passRecord s).shares[i] = s.engines[i].finalShare q u lateral gains filled := by
        rw [passRecord_drive h]
        exact ⟨_, _, _, _, _, rfl, slot_ofFn _ i⟩
      rw [← hq]
      exact finalShare_bounds q u lateral gains filled _ hshare

end Sys2Proof.Machine
end


section
/-! SUPPORT. The reads: those that change nothing (O20) and those that clear (O22). -/

namespace Sys2Proof.Machine

open Sys2Proof

variable {s : State} {p : Port} {tag : Byte} {c : Instr} {q : Request} {r : Result} {body : List Byte} {t : State}

/-! ## An index, a line or a port read from a byte -/

theorem orElse_some {α : Type} {x : Option α} {a : α} {r : Result} {f : α → Act} (h : x = some a) : orElse x r f = f a := by
  rw [h, orElse]

theorem orElse_none {α : Type} {x : Option α} {r : Result} {f : α → Act} (h : x = none) : orElse x r f = answer r := by
  rw [h, orElse]

theorem lineOf_ge {b : Byte} (h : 2 ≤ b.toNat) : lineOf b = none := by
  unfold lineOf
  split <;> simp_all

theorem portOf_ge {b : Byte} (h : 3 ≤ b.toNat) : portOf b = none := by
  unfold portOf
  split <;> simp_all

theorem flagOf_zero : flagOf 0 = some false := rfl

theorem flagOf_one : flagOf 1 = some true := rfl

/-- The read of an entry by its index. -/
theorem read_entry {n : Nat} {b : Byte} {f : State → Fin n → List Byte} (h : some (readAt n b (f s)) = some (r, body)) :
    orElse (indexOf n b) .BAD_INDEX (fun i => readWith fun s => f s i) s = (s, .answered r body) := by
  simp only [readAt, Option.some.injEq] at h
  split at h
  · rename_i hlt
    obtain ⟨rfl, rfl⟩ := Prod.mk.inj h
    rw [orElse_some (indexOf_lt hlt)]
    rfl
  · rename_i hge
    obtain ⟨rfl, rfl⟩ := Prod.mk.inj h
    rw [orElse_none (indexOf_ge (Nat.not_lt.mp hge))]
    rfl

/-! ## The reads that change nothing -/

theorem read_meter {x clear : Byte} (ha : readAnswer s (.readMeter p tag x clear) = some (r, body)) :
    decideReadMeter p x clear s = (s, .answered r body) := by
  obtain ⟨rfl, h⟩ := Option.ite_none_right_eq_some.mp ha
  exact read_entry (f := fun s i => s.meters[i].body) h

theorem read_node {l x clear : Byte} (ha : readAnswer s (.readNode p tag l x clear) = some (r, body)) :
    decideReadNode l x clear s = (s, .answered r body) := by
  obtain ⟨rfl, h⟩ := Option.ite_none_right_eq_some.mp ha
  rw [decideReadNode]
  cases hl : lineOf l with
  | none =>
    rw [hl] at h
    cases h
    rfl
  | some l =>
    rw [hl] at h
    exact read_entry (f := fun s i => nodeBody (s.line l).nodes[i]) h

theorem read_line {l clear : Byte} (ha : readAnswer s (.readLine p tag l clear) = some (r, body)) :
    decideReadLine l clear s = (s, .answered r body) := by
  obtain ⟨rfl, h⟩ := Option.ite_none_right_eq_some.mp ha
  rw [decideReadLine]
  cases hl : lineOf l <;> rw [hl] at h <;> cases h <;> rfl

theorem read_portStatus {x clear : Byte} (ha : readAnswer s (.readPortStatus p tag x clear) = some (r, body)) :
    decideReadPortStatus p x clear s = (s, .answered r body) := by
  obtain ⟨rfl, h⟩ := Option.ite_none_right_eq_some.mp ha
  rw [decideReadPortStatus]
  cases hq : portOf x <;> rw [hq] at h <;> cases h <;> rfl

theorem read_record {x : Byte} (ha : readAnswer s (.readMovementRecord p tag x) = some (r, body)) :
    decideReadMovementRecord x s = (s, .answered r body) := by
  simp only [readAnswer] at ha
  rw [decideReadMovementRecord]
  cases hx : s.records[x.toNat]? <;> rw [hx] at ha <;> cases ha <;> rfl

/-- A read decides what `readAnswer` says, and leaves the state. -/
theorem decides_read (hc : requestParts c = some q) (h : readAnswer s c = some (r, body)) :
    q.act s = (s, .answered r body) := by
  cases c <;> cases hc
  case readEngine => exact read_entry (f := fun s i => s.engines[i].body s.now ++ s.totals[i].body) h
  case readRudder => exact read_entry (f := fun s i => s.rudders[i].body s.now) h
  case readCoupling => exact read_entry (f := fun s i => s.couplings[i].body s.now) h
  case readTank => exact read_entry (f := fun s i => tankBody s i) h
  case readMovementChannel => exact read_entry (f := fun s i => s.channels[i].body s.now ++ be 2 s.nextMovement) h
  case readMeter => exact read_meter h
  case readNode => exact read_node (p := ‹Port›) (tag := ‹Byte›) h
  case readLine => exact read_line h
  case readPortStatus => exact read_portStatus h
  case readMovementRecord => exact read_record h
  all_goals cases h
  all_goals rfl

/-- Settles O20: a read is decided in the state that the notice leaves. -/
theorem readsAnswer : Obligations.ReadsAnswer := by
  intro c p tag r body s hr hfrom h
  obtain ⟨q, hc, rfl, rfl⟩ := requestParts_of_requestFrom hfrom
  rw [exec_request hc]
  exact request_answered hr (decides_read hc h)

/-! ## The reads that clear (R98, R104, R157, R178) -/

/-- A clear option of another value is refused once the entry is found. -/
theorem badClear {clear : Byte} (f : Bool → Act) (h : 2 ≤ clear.toNat) :
    orElse (flagOf clear) .BAD_VALUE f = answer .BAD_VALUE := orElse_none (flagOf_ge h)

theorem ne_one_of_ge {clear : Byte} (h : 2 ≤ clear.toNat) : clear ≠ 1 := by
  rintro rfl
  exact absurd h (by decide)

/-- R104: without the clear option, or from port E, the meter is looked for. -/
theorem readMeter_allowed {x clear : Byte} (h : p = .E ∨ clear ≠ 1) : decideReadMeter p x clear =
    orElse (indexOf 16 x) .BAD_INDEX fun i => orElse (flagOf clear) .BAD_VALUE (readMeterOf i) := by
  rw [decideReadMeter, require, if_pos]
  rw [Bool.not_eq_true', Bool.and_eq_false_iff, decide_eq_false_iff_not, decide_eq_false_iff_not, not_not]
  exact h.symm

theorem readMeter_forbidden {x : Byte} (h : p ≠ .E) : decideReadMeter p x 1 = answer .NOT_PERMITTED := by
  rw [decideReadMeter, require, if_neg]
  simp [h]

theorem readPortStatus_of_port {x clear : Byte} {q : Port} (hq : portOf x = some q) (h : clear ≠ 1 ∨ q = p) :
    decideReadPortStatus p x clear = orElse (flagOf clear) .BAD_VALUE (readStatusOf q) := by
  rw [decideReadPortStatus, orElse_some hq, require, if_pos]
  rw [Bool.not_eq_true', Bool.and_eq_false_iff, decide_eq_false_iff_not, decide_eq_false_iff_not, not_not]
  exact h

theorem readPortStatus_forbidden {x : Byte} {q : Port} (hq : portOf x = some q) (h : q ≠ p) :
    decideReadPortStatus p x 1 = answer .NOT_PERMITTED := by
  rw [decideReadPortStatus, orElse_some hq, require, if_neg]
  simp [h]

@[simp] theorem line_notice (l : Line) : (holderNotice p s).line l = s.line l := by simp [State.line]

theorem setLine_self (s : State) (l : Line) : s.setLine l (s.line l) = s := by cases l <;> rfl

/-- R157: the counters of the entry at a position are cleared. -/
theorem modEntry_some {l : LineCtl} {i : Fin 32} {e : NodeEntry} (f : NodeEntry → NodeEntry) (h : l.nodes[i] = some e) :
    l.modEntry i f = { l with nodes := l.nodes.set i (some (f e)) } := by
  rw [LineCtl.modEntry, h]
  rfl

theorem modEntry_none {l : LineCtl} {i : Fin 32} (f : NodeEntry → NodeEntry) (h : l.nodes[i] = none) : l.modEntry i f = l := by
  rw [LineCtl.modEntry, h]

/-- A request on a port that is ready does what its decision says in the state that the notice leaves. -/
theorem exec_answer {code : Byte} {f : Act} (hc : requestParts c = some ⟨p, tag, code, f⟩) (hr : Ready p s)
    (ha : f (holderNotice p s) = (t, .answered r body)) : exec c s = .next (t.reply p tag r body) := by
  rw [exec_request hc]
  exact request_answered hr ha

/-- Settles O22: the permission, then the index, then the option; the body is made of the values held before. -/
theorem clearingReads : Obligations.ClearingReads := by
  refine ⟨fun p tag i s hr => ?peak, fun p tag index s hr hge => ?peakIndex, fun tag i s hr => ?meter,
    fun p tag index s hr hp => ?meterPort, fun p tag l i s hr => ?node, fun p tag l s hr => ?line, fun p q tag s hr => ?status,
    fun p q tag clear i l j c s hr hge hc => ?badClear, fun p tag x y clear c s hr hc => ?badIndex⟩
  case peak =>
    refine exec_answer rfl hr ?_
    rw [decideReadPeak, indexOf_fin (by decide)]
    simp [orElse, readPeakOf]
  case peakIndex =>
    refine exec_answer rfl hr ?_
    rw [decideReadPeak, orElse_none (indexOf_ge hge)]
    rfl
  case meter =>
    refine exec_answer rfl hr ?_
    rw [readMeter_allowed (.inl rfl), orElse_some (indexOf_fin (by decide) i)]
    rfl
  case meterPort =>
    refine exec_answer rfl hr ?_
    rw [readMeter_forbidden hp]
    rfl
  case node =>
    refine exec_answer rfl hr ?_
    rw [decideReadNode, orElse_some (lineOf_code l), orElse_some (indexOf_fin (by decide) i), orElse_some flagOf_one]
    cases h : (s.line l).nodes[i] with
    | none =>
      simp only [readNodeAt, if_true, State.modLine, line_notice, modEntry_none _ h, h]
      rw [← line_notice (p := p), setLine_self]
    | some e =>
      simp only [readNodeAt, if_true, State.modLine, line_notice, modEntry_some _ h, h]
      rfl
  case line =>
    refine exec_answer rfl hr ?_
    rw [decideReadLine, orElse_some (lineOf_code l), orElse_some flagOf_one]
    simp only [readLineOf, if_true, State.modLine, line_notice]
    rfl
  case status =>
    by_cases hq : q = p
    · rw [if_pos hq]
      refine exec_answer rfl hr ?_
      rw [readPortStatus_of_port (portOf_code q) (.inr hq), orElse_some flagOf_one, hq]
      simp only [readStatusOf, if_true, State.modPort, port_notice]
      rfl
    · rw [if_neg hq]
      refine exec_answer rfl hr ?_
      rw [readPortStatus_forbidden (portOf_code q) hq]
      rfl
  case badClear =>
    rcases hc with rfl | rfl | rfl | rfl
    · refine exec_answer rfl hr ?_
      rw [readMeter_allowed (.inr (ne_one_of_ge hge)), orElse_some (indexOf_fin (by decide) i), badClear _ hge]
      rfl
    · refine exec_answer rfl hr ?_
      rw [decideReadNode, orElse_some (lineOf_code l), orElse_some (indexOf_fin (by decide) j), badClear _ hge]
      rfl
    · refine exec_answer rfl hr ?_
      rw [decideReadLine, orElse_some (lineOf_code l), badClear _ hge]
      rfl
    · refine exec_answer rfl hr ?_
      rw [readPortStatus_of_port (portOf_code q) (.inl (ne_one_of_ge hge)), badClear _ hge]
      rfl
  case badIndex =>
    rcases hc with ⟨rfl, hge, hclear⟩ | ⟨rfl, hge⟩ | ⟨rfl, hge⟩ | ⟨rfl, hge⟩
    · refine exec_answer rfl hr ?_
      rw [readMeter_allowed hclear, orElse_none (indexOf_ge hge)]
      rfl
    · refine exec_answer rfl hr ?_
      rw [decideReadLine, orElse_none (lineOf_ge hge)]
      rfl
    · refine exec_answer rfl hr ?_
      rw [decideReadNode]
      cases hl : lineOf x with
      | none => rfl
      | some l =>
        have hy : 32 ≤ y.toNat := hge.resolve_left fun hx => by rw [lineOf_ge hx] at hl; cases hl
        rw [orElse_some rfl, orElse_none (indexOf_ge hy)]
        rfl
    · refine exec_answer rfl hr ?_
      rw [decideReadPortStatus, orElse_none (portOf_ge hge)]
      rfl

end Sys2Proof.Machine
end


section
/-! SUPPORT. The parameters (O23) and the writes of the control tables (O24). -/

namespace Sys2Proof.Machine

open Sys2Proof

variable {s : State} {p : Port} {tag : Byte}

/-! ## WRITE_PARAMETERS (R183) -/

theorem within_iff (lo hi v : Nat) : within lo hi v = true ↔ lo ≤ v ∧ v ≤ hi := by simp [within]

theorem parameterOf_ge {b : Byte} (h : 8 ≤ b.toNat) : parameterOf b = none := by
  unfold parameterOf
  split <;> simp_all

theorem low_le_high (x : Parameter) : x.low ≤ x.high := by cases x <;> decide

theorem clampNat_eq_iff {lo hi : Nat} (v : Nat) (h : lo ≤ hi) : clampNat lo hi v = v ↔ lo ≤ v ∧ v ≤ hi := by
  unfold clampNat
  omega

theorem decideWriteParameters_of {b : Byte} {x : Parameter} (v : Half) (h : parameterOf b = some x) :
    decideWriteParameters p b v s =
      if s.running then writeParamLive p x v.toNat s else writeParamOpen x v.toNat s := by
  rw [decideWriteParameters, orElse_some h]

theorem writeParamLive_of_bridge {x : Parameter} {b : Bridge} (v : Nat) (hx : x.live = true) (hb : bridgeOf p = some b) :
    writeParamLive p x v s =
      if s.helm.holder = some b then (putParam x (clampNat x.low x.high v) s,
        .answered (if clampNat x.low x.high v = v then .DONE else .CLAMPED) [])
      else answer .NOT_HOLDER s := by
  simp [writeParamLive, hx, hb]

/-- Settles O23: the table, and the checks of the phase, of the port and of the holder in that order. -/
theorem writeParameters : Obligations.WriteParameters := by
  refine ⟨rfl, fun q v => ⟨rfl, rfl, rfl, rfl, rfl, rfl, rfl, rfl⟩, fun p tag x v s hr hrun => ?_,
    fun p tag x v s hr hrun => ⟨fun hx => ?_, fun hx hp => ?_, fun b hx hb => ⟨fun hh => ?_, fun hh => ?_⟩⟩,
    fun p tag n v s hr hn => ?_⟩
  · have hdecide : decideWriteParameters p (BitVec.ofNat 8 x.ctorIdx) v (holderNotice p s) =
        writeParamOpen x v.toNat (holderNotice p s) := by
      rw [decideWriteParameters_of v (parameterOf_code x), running_notice, hrun, if_neg Bool.false_ne_true]
    by_cases hv : x.low ≤ v.toNat ∧ v.toNat ≤ x.high
    · rw [if_pos hv]
      refine exec_answer rfl hr ?_
      rw [hdecide, writeParamOpen, if_pos ((within_iff _ _ _).mpr hv), doneWith, putParam]
      simp
    · rw [if_neg hv]
      refine exec_answer rfl hr ?_
      rw [hdecide, writeParamOpen, if_neg (mt (within_iff _ _ _).mp hv)]
      rfl
  · refine exec_answer rfl hr ?_
    rw [decideWriteParameters_of v (parameterOf_code x), running_notice, hrun, if_pos rfl, writeParamLive, hx]
    rfl
  · subst hp
    refine exec_answer rfl hr ?_
    rw [decideWriteParameters_of v (parameterOf_code x), running_notice, hrun, if_pos rfl, writeParamLive, hx]
    rfl
  · refine exec_answer rfl hr ?_
    rw [notice_not_holder hb hh, decideWriteParameters_of v (parameterOf_code x), hrun, if_pos rfl,
      writeParamLive_of_bridge _ hx hb, if_neg hh]
    rfl
  · refine exec_answer rfl hr ?_
    rw [notice_holder hb hh, decideWriteParameters_of v (parameterOf_code x), (heard_keeps s).1, if_pos hrun,
      writeParamLive_of_bridge _ hx hb, if_pos (c := s.heard.helm.holder = some b) hh]
    simp only [clampNat_eq_iff _ (low_le_high x)]
    rfl
  · refine exec_answer rfl hr ?_
    rw [decideWriteParameters, orElse_none (parameterOf_ge hn)]
    rfl

/-! ## The write of an entry (R47, R69, R82, R105, R122) -/

section Write

variable {α : Type} {n : Nat} {b m : Byte} {cfg : Option α} {g : Option α} {F : Fin n → Option α → State → State}

/-- What every write of an entry decides by: the phase, then the index, then the marker and the configuration. -/
def writeEntry (n : Nat) (b m : Byte) (cfg : Option α) (F : Fin n → Option α → State → State) : Act :=
  inConfiguring (orElse (indexOf n b) .BAD_INDEX fun i => orElse (marked m cfg) .BAD_VALUE fun g => doneWith (F i g))

theorem inConfiguring_on (f : Act) (hrun : s.running = false) : inConfiguring f s = f s := by simp [inConfiguring, hrun]

theorem writeEntry_done {i : Fin n} (hi : indexOf n b = some i) (hm : marked m cfg = some g) (hrun : s.running = false) :
    writeEntry n b m cfg F s = (F i g s, .answered .DONE []) := by
  rw [writeEntry, inConfiguring_on _ hrun, orElse_some hi, orElse_some hm]
  rfl

theorem writeEntry_badIndex (hi : n ≤ b.toNat) (hrun : s.running = false) :
    writeEntry n b m cfg F s = answer .BAD_INDEX s := by
  rw [writeEntry, inConfiguring_on _ hrun, orElse_none (indexOf_ge hi)]

theorem writeEntry_badValue (hi : b.toNat < n) (hm : marked m cfg = none) (hrun : s.running = false) :
    writeEntry n b m cfg F s = answer .BAD_VALUE s := by
  rw [writeEntry, inConfiguring_on _ hrun, orElse_some (indexOf_lt hi), orElse_none hm]

theorem marked_zero : marked 0 cfg = some none := rfl

theorem marked_one {x : α} (h : cfg = some x) : marked 1 cfg = some (some x) := by
  rw [h]
  rfl

/-- R188: a broken marker, and a configuration outside its ranges, are refused. -/
theorem marked_refused (h : 2 ≤ m.toNat ∨ (m = 1 ∧ cfg = none)) : marked m cfg = none := by
  rcases h with h | ⟨rfl, rfl⟩
  · unfold marked
    split <;> simp_all
  · rfl

end Write

/-! ## Codes within their lists (R188) -/

theorem toNat_code {n v : Nat} (h : v < 2 ^ n) : (BitVec.ofNat n v).toNat = v := by simp [Nat.mod_eq_of_lt h]

theorem axisOf_code (x : Axis) : axisOf (BitVec.ofNat 8 x.ctorIdx) = some x := by cases x <;> rfl

theorem sideOf_code (x : Side) : sideOf (BitVec.ofNat 8 x.ctorIdx) = some x := by cases x <;> rfl

theorem rudderKindOf_code (x : RudderKind) : rudderKindOf (BitVec.ofNat 8 x.ctorIdx) = some x := by cases x <;> rfl

theorem couplingKindOf_code (x : CouplingKind) : couplingKindOf (BitVec.ofNat 8 x.ctorIdx) = some x := by cases x <;> rfl

theorem meterKindOf_code (x : MeterKind) : meterKindOf (BitVec.ofNat 8 x.ctorIdx) = some x := by cases x <;> rfl

theorem sourceOf_code (x : StateSource) : sourceOf (BitVec.ofNat 8 x.ctorIdx) = some x := by cases x <;> rfl

theorem flagOf_param (b : Bool) : flagOf (flagParam b) = some b := by cases b <;> rfl

theorem stationOf_lt {b : Byte} {x : Station} (h : stationOf b = some x) : b.toNat < 3 := by
  unfold stationOf at h
  split at h <;> simp_all

theorem axisOf_lt {b : Byte} {x : Axis} (h : axisOf b = some x) : b.toNat < 2 := by
  unfold axisOf at h
  split at h <;> simp_all

theorem sideOf_lt {b : Byte} {x : Side} (h : sideOf b = some x) : b.toNat < 3 := by
  unfold sideOf at h
  split at h <;> simp_all

theorem rudderKindOf_lt {b : Byte} {x : RudderKind} (h : rudderKindOf b = some x) : b.toNat < 2 := by
  unfold rudderKindOf at h
  split at h <;> simp_all

theorem couplingKindOf_lt {b : Byte} {x : CouplingKind} (h : couplingKindOf b = some x) : b.toNat < 3 := by
  unfold couplingKindOf at h
  split at h <;> simp_all

theorem meterKindOf_lt {b : Byte} {x : MeterKind} (h : meterKindOf b = some x) : b.toNat < 3 := by
  unfold meterKindOf at h
  split at h <;> simp_all

theorem sourceOf_lt {b : Byte} {x : StateSource} (h : sourceOf b = some x) : b.toNat < 2 := by
  unfold sourceOf at h
  split at h <;> simp_all

theorem flagOf_lt {b : Byte} {x : Bool} (h : flagOf b = some x) : b.toNat < 2 := by
  unfold flagOf at h
  split at h <;> simp_all

theorem indexOf_some_lt {n : Nat} {b : Byte} {i : Fin n} (h : indexOf n b = some i) : b.toNat < n := by
  by_contra hge
  rw [indexOf_ge (Nat.not_lt.mp hge)] at h
  cases h

/-! ## Optional parameters (R188) -/

theorem readOpt_none (n : Nat) : readOpt (optionalParam n none) = .absent := rfl

theorem readOpt_some {n v : Nat} (h : v < 2 ^ n) : readOpt (optionalParam n (some v)) = .present v :=
  congrArg OptValue.present (toNat_code h)

theorem meterOf_param (m : Option (Fin 16)) : meterOf (optionalParam 8 (m.map Fin.val)) = some m := by
  cases m with
  | none => rfl
  | some i => simp [meterOf, readOpt_some (n := 8) (Nat.lt_trans i.isLt (by decide))]

theorem readOpt_bad {n : Nat} {o : OptParam n} (h : 2 ≤ o.presence.toNat) : readOpt o = .bad := by
  unfold readOpt
  split <;> simp_all

theorem readOpt_one {n : Nat} {o : OptParam n} (h : o.presence = 1) : readOpt o = .present o.value.toNat := by
  simp [readOpt, h]

theorem meterOf_bounds {o : OptParam 8} {m : Option (Fin 16)} (h : meterOf o = some m) :
    o.presence.toNat < 2 ∧ (o.presence = 1 → o.value.toNat < 16) := by
  constructor
  · by_contra hge
    rw [meterOf, readOpt_bad (Nat.not_lt.mp hge)] at h
    cases h
  · intro hp
    by_contra hge
    rw [meterOf, readOpt_one hp] at h
    simp [hge] at h

end Sys2Proof.Machine
end


section
/-! SUPPORT. The writes of the control tables (O24). -/

namespace Sys2Proof.Machine

open Sys2Proof

variable {s : State} {p : Port} {tag : Byte}

/-! ## A configuration read back from its parameters (R45, R67, R80) -/

theorem engineCfgOf_of_fields {c : EngineParams} {g : EngineCfg} (h : g.InRange)
    (hst : stationOf c.station = some g.station) (hax : axisOf c.axis = some g.axis) (hsd : sideOf c.side = some g.side)
    (htank : indexOf 8 c.feedTank = some g.feedTank) (hmeter : meterOf c.meter = some g.meter)
    (hnum : [c.weight.toNat, c.idleRpm.toNat, c.maxRpm.toNat, c.upRamp.toNat, c.downRamp.toNat, c.asternLimit.toNat,
      c.economyCap.toNat, c.ratedRate.toNat] =
        [g.weight, g.idleRpm, g.maxRpm, g.upRamp, g.downRamp, g.asternLimit, g.economyCap, g.ratedRate]) :
    engineCfgOf c = some g := by
  simp only [List.cons.injEq, and_true] at hnum
  simp only [engineCfgOf, hst, hax, hsd, htank, hmeter, hnum, Bool.and_eq_true, within_iff]
  exact if_pos (by omega)

theorem engineCfgOf_params {g : EngineCfg} (h : g.InRange) : engineCfgOf g.params = some g := by
  refine engineCfgOf_of_fields h (stationOf_code _) (axisOf_code _) (sideOf_code _) (indexOf_fin (by decide) _)
    (meterOf_param _) ?_
  simp only [EngineCfg.params, List.cons.injEq, and_true]
  and_intros <;> exact toNat_code (by omega)

theorem rudderCfgOf_params {g : RudderCfg} (h : g.InRange) : rudderCfgOf g.params = some g := by
  have hangle : g.params.maxAngle.toNat = g.maxAngle := toNat_code (by omega)
  have hslew : g.params.slew.toNat = g.slew := toNat_code (by omega)
  simp only [rudderCfgOf, show stationOf g.params.station = _ from stationOf_code _,
    show rudderKindOf g.params.kind = _ from rudderKindOf_code _, hangle, hslew, Bool.and_eq_true, within_iff]
  exact if_pos (by omega)

theorem couplingCfgOf_of_fields {c : CouplingParams} {g : CouplingCfg} (h : g.InRange)
    (hkind : couplingKindOf c.kind = some g.kind) (htend : flagOf c.autoTend = some g.autoTend)
    (hnum : [c.slackLevel.toNat, c.target.toNat, c.band.toNat, c.strainLevel.toNat, c.recoveryLevel.toNat,
      c.renderLevel.toNat] = [g.slackLevel, g.target, g.band, g.strainLevel, g.recoveryLevel, g.renderLevel]) :
    couplingCfgOf c = some g := by
  simp only [List.cons.injEq, and_true] at hnum
  simp only [couplingCfgOf, hkind, htend, hnum, Bool.and_eq_true, within_iff]
  exact if_pos (by omega)

theorem couplingCfgOf_params {g : CouplingCfg} (h : g.InRange) : couplingCfgOf g.params = some g := by
  refine couplingCfgOf_of_fields h (couplingKindOf_code _) (flagOf_param _) ?_
  simp only [CouplingCfg.params, List.cons.injEq, and_true]
  and_intros <;> exact toNat_code (by omega)

/-! ## Parameters outside their rows -/

theorem engineCfgOf_bounds {c : EngineParams} {g : EngineCfg} (h : engineCfgOf c = some g) :
    (c.station.toNat < 3 ∧ c.axis.toNat < 2 ∧ c.side.toNat < 3 ∧ c.feedTank.toNat < 8 ∧ c.meter.presence.toNat < 2
      ∧ (c.meter.presence = 1 → c.meter.value.toNat < 16))
    ∧ 1 ≤ c.weight.toNat ∧ c.weight.toNat ≤ 100 ∧ 300 ≤ c.idleRpm.toNat ∧ c.idleRpm.toNat ≤ 1200 ∧ 400 ≤ c.maxRpm.toNat
      ∧ c.maxRpm.toNat ≤ 2500 ∧ 10 ≤ c.upRamp.toNat ∧ c.upRamp.toNat ≤ 500 ∧ 10 ≤ c.downRamp.toNat ∧ c.downRamp.toNat ≤ 1000
      ∧ c.asternLimit.toNat ≤ 1000 ∧ c.economyCap.toNat ≤ 1000 ∧ 1 ≤ c.ratedRate.toNat ∧ c.ratedRate.toNat ≤ 2000 := by
  unfold engineCfgOf at h
  split at h
  · rename_i hst hax hsd htank hmeter
    obtain ⟨hnum, -⟩ := Option.ite_none_right_eq_some.mp h
    simp only [Bool.and_eq_true, within_iff] at hnum
    obtain ⟨hpresence, hvalue⟩ := meterOf_bounds hmeter
    exact ⟨⟨stationOf_lt hst, axisOf_lt hax, sideOf_lt hsd, indexOf_some_lt htank, hpresence, hvalue⟩, by omega⟩
  · cases h

theorem rudderCfgOf_bounds {c : RudderParams} {g : RudderCfg} (h : rudderCfgOf c = some g) :
    c.station.toNat < 3 ∧ c.kind.toNat < 2 ∧ 100 ≤ c.maxAngle.toNat ∧ c.maxAngle.toNat ≤ 450 ∧ 10 ≤ c.slew.toNat
      ∧ c.slew.toNat ≤ 100 := by
  unfold rudderCfgOf at h
  split at h
  · rename_i hst hkind
    obtain ⟨hnum, -⟩ := Option.ite_none_right_eq_some.mp h
    simp only [Bool.and_eq_true, within_iff] at hnum
    exact ⟨stationOf_lt hst, rudderKindOf_lt hkind, by omega⟩
  · cases h

theorem couplingCfgOf_bounds {c : CouplingParams} {g : CouplingCfg} (h : couplingCfgOf c = some g) :
    c.kind.toNat < 3 ∧ c.autoTend.toNat < 2 ∧ c.slackLevel.toNat ≤ 2000 ∧ c.target.toNat ≤ 2000 ∧ c.band.toNat ≤ 1000
      ∧ c.strainLevel.toNat ≤ 2000 ∧ c.recoveryLevel.toNat ≤ 2000 ∧ c.renderLevel.toNat ≤ 2000 := by
  unfold couplingCfgOf at h
  split at h
  · rename_i hkind htend
    obtain ⟨hnum, -⟩ := Option.ite_none_right_eq_some.mp h
    simp only [Bool.and_eq_true, within_iff] at hnum
    exact ⟨couplingKindOf_lt hkind, flagOf_lt htend, by omega⟩
  · cases h

/-! ## The slot after a write -/

theorem writeEngine_notice (i : Fin 8) (cfg : Option EngineCfg) : State.writeEngine i cfg (holderNotice p s) =
    ((holderNotice p s).setEngine i (s.engines[i].written cfg)).postIf
      (decide (s.engines[i].state ≠ (s.engines[i].written cfg).state)) .ENGINE_CHANGED := by
  simp only [State.writeEngine, holderNotice_keeps, ne_comm]

theorem writeRudder_notice (i : Fin 8) (cfg : Option RudderCfg) : State.writeRudder i cfg (holderNotice p s) =
    ((holderNotice p s).setRudder i (s.rudders[i].written cfg)).postIf
      (decide (s.rudders[i].state ≠ (s.rudders[i].written cfg).state)) .RUDDER_CHANGED := by
  simp only [State.writeRudder, holderNotice_keeps, ne_comm]

theorem writeCoupling_notice (i : Fin 24) (cfg : Option CouplingCfg) : State.writeCoupling i cfg (holderNotice p s) =
    ((holderNotice p s).setCoupling i (s.couplings[i].written cfg)).postIf
      (decide (s.couplings[i].state ≠ (s.couplings[i].written cfg).state)) .COUPLING_CHANGED := by
  simp only [State.writeCoupling, holderNotice_keeps, ne_comm]

/-- A table's write in CONFIGURING, by the three ways `writeEntry` can go. -/
theorem exec_write_done {α : Type} {n : Nat} {m code : Byte} {cfg g : Option α} {F : Fin n → Option α → State → State}
    {c : Instr} {i : Fin n} (hn : n ≤ 256) (hr : Ready p s) (hrun : s.running = false) (hm : marked m cfg = some g)
    (hc : requestParts c = some ⟨p, tag, code, writeEntry n (BitVec.ofNat 8 i.val) m cfg F⟩) :
    exec c s = .next ((F i g (holderNotice p s)).reply p tag .DONE []) :=
  exec_answer hc hr (writeEntry_done (indexOf_fin hn i) hm (by rwa [running_notice]))

theorem exec_write_badIndex {α : Type} {n : Nat} {b m code : Byte} {cfg : Option α} {F : Fin n → Option α → State → State}
    {c : Instr} (hr : Ready p s) (hrun : s.running = false) (hi : n ≤ b.toNat)
    (hc : requestParts c = some ⟨p, tag, code, writeEntry n b m cfg F⟩) :
    exec c s = .next ((holderNotice p s).reply p tag .BAD_INDEX []) :=
  exec_answer hc hr (writeEntry_badIndex hi (by rwa [running_notice]))

theorem exec_write_badValue {α : Type} {n : Nat} {b m code : Byte} {cfg : Option α} {F : Fin n → Option α → State → State}
    {c : Instr} (hr : Ready p s) (hrun : s.running = false) (hi : b.toNat < n) (hm : marked m cfg = none)
    (hc : requestParts c = some ⟨p, tag, code, writeEntry n b m cfg F⟩) :
    exec c s = .next ((holderNotice p s).reply p tag .BAD_VALUE []) :=
  exec_answer hc hr (writeEntry_badValue hi hm (by rwa [running_notice]))

/-- Settles O24: each write is `writeEntry` of its table, and its parameters give the configuration back. -/
theorem writeControlTables : Obligations.WriteControlTables := by
  refine ⟨fun configured g n f => ⟨rfl, rfl⟩, fun configured g n => ⟨rfl, rfl⟩, fun used g n => ⟨rfl, rfl⟩,
    fun p tag s hr hrun => ⟨fun i g c hg => ⟨?_, ?_⟩, fun i g c hg => ⟨?_, ?_⟩, fun i g c hg => ⟨?_, ?_⟩,
      fun i m e r k => ⟨fun hi => ⟨?_, ?_⟩, fun hi => ?_, fun hi h => ?_, fun hi h => ?_, fun hi h => ?_⟩⟩⟩
  · rw [exec_write_done (F := State.writeEngine) (by decide) hr hrun (marked_one (engineCfgOf_params hg)) rfl,
      writeEngine_notice]
    rfl
  · rw [exec_write_done (F := State.writeEngine) (cfg := engineCfgOf c) (by decide) hr hrun marked_zero rfl,
      writeEngine_notice]
    rfl
  · rw [exec_write_done (F := State.writeRudder) (by decide) hr hrun (marked_one (rudderCfgOf_params hg)) rfl,
      writeRudder_notice]
    rfl
  · rw [exec_write_done (F := State.writeRudder) (cfg := rudderCfgOf c) (by decide) hr hrun marked_zero rfl,
      writeRudder_notice]
    rfl
  · rw [exec_write_done (F := State.writeCoupling) (by decide) hr hrun (marked_one (couplingCfgOf_params hg)) rfl,
      writeCoupling_notice]
    rfl
  · rw [exec_write_done (F := State.writeCoupling) (cfg := couplingCfgOf c) (by decide) hr hrun marked_zero rfl,
      writeCoupling_notice]
    rfl
  · exact exec_write_badIndex (F := State.writeEngine) hr hrun hi rfl
  · exact exec_write_badIndex (F := State.writeRudder) hr hrun hi rfl
  · exact exec_write_badIndex (F := State.writeCoupling) hr hrun hi rfl
  · refine exec_write_badValue (F := State.writeEngine) hr hrun hi (marked_refused (h.imp_right fun ⟨hm, hbad⟩ => ⟨hm, ?_⟩)) rfl
    refine Option.eq_none_iff_forall_ne_some.mpr fun g hg => ?_
    obtain ⟨⟨_, _, _, _, _, hvalue⟩, _⟩ := engineCfgOf_bounds hg
    have hmeter : ¬(e.meter.presence = 1 ∧ 16 ≤ e.meter.value.toNat) := fun ⟨hp, hge⟩ => Nat.not_lt.mpr hge (hvalue hp)
    simp only [hmeter, or_false] at hbad
    omega
  · refine exec_write_badValue (F := State.writeRudder) hr hrun hi (marked_refused (h.imp_right fun ⟨hm, hbad⟩ => ⟨hm, ?_⟩)) rfl
    refine Option.eq_none_iff_forall_ne_some.mpr fun g hg => ?_
    have := rudderCfgOf_bounds hg
    omega
  · refine exec_write_badValue (F := State.writeCoupling) hr hrun hi (marked_refused (h.imp_right fun ⟨hm, hbad⟩ => ⟨hm, ?_⟩)) rfl
    refine Option.eq_none_iff_forall_ne_some.mpr fun g hg => ?_
    have := couplingCfgOf_bounds hg
    omega

end Sys2Proof.Machine
end


section
/-! SUPPORT. The writes of the fuel tables and of the node lists (O25). -/

namespace Sys2Proof.Machine

open Sys2Proof

variable {s : State} {p : Port} {tag : Byte}

/-! ## A configuration read back from its parameters (R103, R120, R156) -/

theorem linkedOf_param (m : Option (Fin 8)) : linkedOf (optionalParam 8 (m.map Fin.val)) = some m := by
  cases m with
  | none => rfl
  | some i => simp [linkedOf, readOpt_some (n := 8) (Nat.lt_trans i.isLt (by decide))]

theorem linkedOf_bounds {o : OptParam 8} {m : Option (Fin 8)} (h : linkedOf o = some m) :
    o.presence.toNat < 2 ∧ (o.presence = 1 → o.value.toNat < 8) := by
  constructor
  · by_contra hge
    rw [linkedOf, readOpt_bad (Nat.not_lt.mp hge)] at h
    cases h
  · intro hp
    by_contra hge
    rw [linkedOf, readOpt_one hp] at h
    simp [hge] at h

theorem meterCfgOf_params {g : MeterCfg} (h : g.InRange) : meterCfgOf g.params = some g := by
  have hw1 : g.params.weight1.toNat = g.weight1 := toNat_code (by omega)
  have hw2 : g.params.weight2.toNat = g.weight2 := toNat_code (by omega)
  have halpha : g.params.alpha.toNat = g.alpha := toNat_code (by omega)
  have hlimit : g.params.limit.toNat = g.limit := toNat_code (by omega)
  simp only [meterCfgOf, show meterKindOf g.params.kind = _ from meterKindOf_code _,
    show linkedOf g.params.engine = _ from linkedOf_param _, hw1, hw2, halpha, hlimit, Bool.and_eq_true, within_iff]
  exact if_pos (by omega)

theorem hysteresisOf_param {capacity v : Nat} (o : Option Nat) (hv : v ≤ 20000) (h : v = o.getD (capacity / 100)) :
    hysteresisOf capacity (optionalParam 16 o) = some v := by
  subst h
  cases o with
  | none => rfl
  | some v => simp only [hysteresisOf, readOpt_some (n := 16) (v := v) (by exact Nat.lt_of_le_of_lt hv (by decide))]; exact if_pos hv

theorem hysteresisOf_bounds {capacity v : Nat} {o : OptParam 16} (h : hysteresisOf capacity o = some v) :
    o.presence.toNat < 2 ∧ (o.presence = 1 → o.value.toNat ≤ 20000) := by
  constructor
  · by_contra hge
    rw [hysteresisOf, readOpt_bad (Nat.not_lt.mp hge)] at h
    cases h
  · intro hp
    by_contra hge
    rw [hysteresisOf, readOpt_one hp] at h
    simp [hge] at h

theorem tankCfgOf_of_fields {c : TankParams} {g : TankCfg} (h : g.InRange) (hst : stationOf c.station = some g.station)
    (hfit : flagOf c.fitted = some g.fitted) (hsrc : sourceOf c.source = some g.source)
    (hhys : hysteresisOf c.capacity.toNat c.hysteresis = some g.hysteresis)
    (hnum : [c.capacity.toNat, c.high.toNat, c.low.toNat, c.reserve.toNat, c.empty.toNat, c.limit.toNat] =
      [g.capacity, g.high, g.low, g.reserve, g.empty, g.limit]) : tankCfgOf c = some g := by
  obtain ⟨h1, h2, h3, h4, h5, h6, h7, h8, h9, hsource⟩ := h
  have hfitted : g.fitted = true ∨ g.source = .BOOK := by
    cases hg : g.source with
    | BOOK => exact .inr rfl
    | SOUNDING => exact .inl (hsource hg)
  simp only [List.cons.injEq, and_true] at hnum
  rw [hnum.1] at hhys
  simp only [tankCfgOf, hst, hfit, hsrc, hhys, hnum, Bool.and_eq_true, within_iff, Bool.or_eq_true, decide_eq_true_eq]
  exact if_pos ⟨by omega, hfitted⟩

theorem tankCfgOf_params {g : TankCfg} {o : Option Nat} (h : g.InRange) (hhys : g.hysteresis = o.getD (g.capacity / 100)) :
    tankCfgOf (g.params o) = some g := by
  have hcap : (g.params o).capacity.toNat = g.capacity := toNat_code (by omega)
  refine tankCfgOf_of_fields h (stationOf_code _) (flagOf_param _) (sourceOf_code _) ?_ ?_
  · rw [hcap]
    exact hysteresisOf_param o (by omega) hhys
  · simp only [TankCfg.params, List.cons.injEq, and_true]
    and_intros <;> exact toNat_code (by omega)

theorem boundOf_param (b : Bound) : boundOf (BitVec.ofNat 8 b.kind).toNat (readOpt (optionalParam 8 b.number)) = some b := by
  cases b with
  | pump => rfl
  | engine i => exact (congrArg (boundOf _) (readOpt_some (n := 8) (by omega))).trans (dif_pos i.isLt)
  | rudder i => exact (congrArg (boundOf _) (readOpt_some (n := 8) (by omega))).trans (dif_pos i.isLt)
  | winch i => exact (congrArg (boundOf _) (readOpt_some (n := 8) (by omega))).trans (dif_pos i.isLt)
  | meter i => exact (congrArg (boundOf _) (readOpt_some (n := 8) (by omega))).trans (dif_pos i.isLt)
  | tank i => exact (congrArg (boundOf _) (readOpt_some (n := 8) (by omega))).trans (dif_pos i.isLt)

theorem nodeOfParams_params {b : Bound} {a : Nat} (h1 : 1 ≤ a) (h2 : a ≤ 120) :
    nodeOfParams (nodeParams b a) = some (NodeEntry.fresh b a) := by
  have haddr : (nodeParams b a).address.toNat = a := toNat_code (by omega)
  simp only [nodeOfParams, show boundOf (nodeParams b a).kind.toNat (readOpt (nodeParams b a).bound) = _ from boundOf_param b,
    haddr, within_iff]
  exact if_pos ⟨h1, h2⟩

/-! ## Parameters outside their rows -/

theorem meterCfgOf_bounds {c : MeterParams} {g : MeterCfg} (h : meterCfgOf c = some g) :
    (c.engine.presence = 1 → c.engine.value.toNat < 8) ∧ c.kind.toNat < 3 ∧ c.engine.presence.toNat < 2
      ∧ 1 ≤ c.weight1.toNat ∧ c.weight1.toNat ≤ 1000 ∧ 1 ≤ c.weight2.toNat ∧ c.weight2.toNat ≤ 1000
      ∧ c.alpha.toNat ≤ 2000 ∧ 1 ≤ c.limit.toNat := by
  unfold meterCfgOf at h
  split at h
  · rename_i hkind hlink
    obtain ⟨hnum, -⟩ := Option.ite_none_right_eq_some.mp h
    simp only [Bool.and_eq_true, within_iff] at hnum
    obtain ⟨hpresence, hvalue⟩ := linkedOf_bounds hlink
    exact ⟨hvalue, meterKindOf_lt hkind, hpresence, by omega⟩
  · cases h

theorem tankCfgOf_bounds {c : TankParams} {g : TankCfg} (h : tankCfgOf c = some g) :
    (c.hysteresis.presence = 1 → c.hysteresis.value.toNat ≤ 20000) ∧ ¬(c.source = 1 ∧ c.fitted = 0)
      ∧ c.station.toNat < 3 ∧ c.hysteresis.presence.toNat < 2 ∧ c.fitted.toNat < 2 ∧ c.source.toNat < 2
      ∧ 100 ≤ c.capacity.toNat ∧ c.capacity.toNat ≤ 200000 ∧ c.high.toNat ≤ 200000 ∧ c.low.toNat ≤ 200000
      ∧ c.reserve.toNat ≤ 200000 ∧ c.empty.toNat ≤ 200000 ∧ 1 ≤ c.limit.toNat ∧ c.limit.toNat ≤ 20000 := by
  unfold tankCfgOf at h
  split at h
  · rename_i hst hfit hsrc hhys
    obtain ⟨hnum, -⟩ := Option.ite_none_right_eq_some.mp h
    simp only [Bool.and_eq_true, within_iff, Bool.or_eq_true, decide_eq_true_eq] at hnum
    obtain ⟨hpresence, hvalue⟩ := hysteresisOf_bounds hhys
    refine ⟨hvalue, ?_, stationOf_lt hst, hpresence, flagOf_lt hfit, sourceOf_lt hsrc, by omega⟩
    rintro ⟨h1, h0⟩
    rw [h1] at hsrc
    rw [h0] at hfit
    cases hsrc
    cases hfit
    simp at hnum
  · cases h

theorem presence_of_toNat {b : Byte} : b = 0 ∨ b = 1 ∨ 2 ≤ b.toNat := by bv_omega

/-- R156: a kind beyond the list, an optional number that does not go with the kind, and one past its table. -/
theorem boundOf_refused {k : Byte} {o : OptParam 8} (h : 6 ≤ k.toNat ∨ 2 ≤ o.presence.toNat ∨ (k.toNat < 5 ∧ o.presence = 0)
    ∨ (k = 5 ∧ o.presence = 1) ∨ ((k = 0 ∨ k = 1 ∨ k = 4) ∧ 8 ≤ o.value.toNat ∧ o.presence = 1)
    ∨ (k = 2 ∧ 24 ≤ o.value.toNat) ∨ (k = 3 ∧ 16 ≤ o.value.toNat)) : boundOf k.toNat (readOpt o) = none := by
  simp only [BitVec.toNat_eq] at h
  rcases presence_of_toNat (b := o.presence) with hp | hp | hp
  · have hread : readOpt o = .absent := by simp [readOpt, hp]
    rw [hp] at h
    rw [hread]
    unfold boundOf
    split
    case h_6 hk _ => simp [hk] at h
    case h_7 => rfl
    all_goals contradiction
  · rw [hp] at h
    rw [readOpt_one hp]
    unfold boundOf
    split
    case h_1 hk hv => cases hv; exact dif_neg (by simp [hk] at h; omega)
    case h_2 hk hv => cases hv; exact dif_neg (by simp [hk] at h; omega)
    case h_3 hk hv => cases hv; exact dif_neg (by simp [hk] at h; omega)
    case h_4 hk hv => cases hv; exact dif_neg (by simp [hk] at h; omega)
    case h_5 hk hv => cases hv; exact dif_neg (by simp [hk] at h; omega)
    case h_6 => contradiction
    case h_7 => rfl
  · rw [readOpt_bad hp]
    unfold boundOf
    split <;> simp_all

/-- R156: an address or a bound object outside its row. -/
theorem nodeOfParams_refused {c : NodeParams}
    (h : (c.address.toNat < 1 ∨ 120 < c.address.toNat) ∨ boundOf c.kind.toNat (readOpt c.bound) = none) : nodeOfParams c = none := by
  unfold nodeOfParams
  split
  · rename_i b hb
    rw [hb] at h
    rw [if_neg]
    rw [within_iff]
    have := h.resolve_right (by simp)
    omega
  · rfl

/-! ## The writes -/

/-- R105, R122: the entries that a write of a meter or of a tank leaves. -/
def writeMeterEntry (i : Fin 16) (cfg : Option MeterCfg) (s : State) : State := s.setMeter i (s.meters[i].written cfg)

def writeTankEntry (i : Fin 8) (cfg : Option TankCfg) (s : State) : State := s.setTank i (s.tanks[i].written cfg)

theorem writeMeterEntry_notice (i : Fin 16) (cfg : Option MeterCfg) :
    writeMeterEntry i cfg (holderNotice p s) = (holderNotice p s).setMeter i (s.meters[i].written cfg) := by
  simp only [writeMeterEntry, holderNotice_keeps]

theorem writeTankEntry_notice (i : Fin 8) (cfg : Option TankCfg) :
    writeTankEntry i cfg (holderNotice p s) = (holderNotice p s).setTank i (s.tanks[i].written cfg) := by
  simp only [writeTankEntry, holderNotice_keeps]

theorem writeNode_notice (l : Line) (i : Fin 32) (e : Option NodeEntry) : State.writeNode l i e (holderNotice p s) =
    (holderNotice p s).setLine l { s.line l with nodes := (s.line l).nodes.set i e } := by
  simp only [State.writeNode, State.modLine, line_notice]

theorem decideWriteNode_at {l : Line} {i : Fin 32} {m : Byte} {c : NodeParams} (hrun : s.running = false) :
    decideWriteNode (BitVec.ofNat 8 l.ctorIdx) (BitVec.ofNat 8 i.val) m c (holderNotice p s) =
      orElse (marked m (nodeOfParams c)) .BAD_VALUE (fun e => doneWith (State.writeNode l i e)) (holderNotice p s) := by
  rw [decideWriteNode, inConfiguring_on _ (by rwa [running_notice]), orElse_some (lineOf_code l),
    orElse_some (indexOf_fin (by decide) i)]

/-- Settles O25: the tables go through `writeEntry`, the node lists through the line and the position. -/
theorem writeFuelTablesAndNodes : Obligations.WriteFuelTablesAndNodes := by
  refine ⟨fun used g n c hc => by subst hc; rfl, rfl, rfl, fun b a => rfl, fun p tag s hr hrun => ⟨fun i g c hg => ⟨?_, ?_⟩,
    fun i g h c hg hhys => ⟨?_, ?_⟩, fun l i b a c h1 h2 => ⟨?_, ?_⟩,
    fun i j m e t n => ⟨fun hi => ?_, fun hi => ?_, fun hi => ?_, fun hi h => ?_, fun hi h => ?_, fun hi hj h => ?_⟩⟩⟩
  · rw [exec_write_done (F := writeMeterEntry) (by decide) hr hrun (marked_one (meterCfgOf_params hg)) rfl,
      writeMeterEntry_notice]
    rfl
  · rw [exec_write_done (F := writeMeterEntry) (cfg := meterCfgOf c) (by decide) hr hrun marked_zero rfl,
      writeMeterEntry_notice]
    rfl
  · rw [exec_write_done (F := writeTankEntry) (by decide) hr hrun (marked_one (tankCfgOf_params hg hhys)) rfl,
      writeTankEntry_notice]
    rfl
  · rw [exec_write_done (F := writeTankEntry) (cfg := tankCfgOf c) (by decide) hr hrun marked_zero rfl,
      writeTankEntry_notice]
    rfl
  · refine exec_answer rfl hr ?_
    rw [decideWriteNode_at hrun, orElse_some (marked_one (nodeOfParams_params h1 h2)), doneWith, writeNode_notice]
  · refine exec_answer rfl hr ?_
    rw [decideWriteNode_at hrun, orElse_some marked_zero, doneWith, writeNode_notice]
  · exact exec_write_badIndex (F := writeMeterEntry) hr hrun hi rfl
  · exact exec_write_badIndex (F := writeTankEntry) hr hrun hi rfl
  · refine exec_answer rfl hr ?_
    rw [decideWriteNode, inConfiguring_on _ (by rwa [running_notice])]
    cases hl : lineOf i with
    | none => rfl
    | some l =>
      have hj : 32 ≤ j.toNat := hi.resolve_left fun hx => by rw [lineOf_ge hx] at hl; cases hl
      rw [orElse_some rfl, orElse_none (indexOf_ge hj)]
      rfl
  · refine exec_write_badValue (F := writeMeterEntry) hr hrun hi (marked_refused (h.imp_right fun ⟨hm, hbad⟩ => ⟨hm, ?_⟩)) rfl
    refine Option.eq_none_iff_forall_ne_some.mpr fun g hg => ?_
    obtain ⟨hvalue, hrest⟩ := meterCfgOf_bounds hg
    have hlink : ¬(e.engine.presence = 1 ∧ 8 ≤ e.engine.value.toNat) := fun ⟨hp, hge⟩ => Nat.not_lt.mpr hge (hvalue hp)
    simp only [hlink, false_or] at hbad
    omega
  · refine exec_write_badValue (F := writeTankEntry) hr hrun hi (marked_refused (h.imp_right fun ⟨hm, hbad⟩ => ⟨hm, ?_⟩)) rfl
    refine Option.eq_none_iff_forall_ne_some.mpr fun g hg => ?_
    obtain ⟨hvalue, hsource, hrest⟩ := tankCfgOf_bounds hg
    have hhys : ¬(t.hysteresis.presence = 1 ∧ 20000 < t.hysteresis.value.toNat) := fun ⟨hp, hge⟩ =>
      Nat.not_le.mpr hge (hvalue hp)
    simp only [hhys, hsource, false_or, or_false] at hbad
    omega
  · obtain ⟨l, hl⟩ : ∃ l, lineOf i = some l := by
      interval_cases h : i.toNat <;> simp [lineOf, h]
    refine exec_answer rfl hr ?_
    rw [decideWriteNode, inConfiguring_on _ (by rwa [running_notice]), orElse_some hl, orElse_some (indexOf_lt hj),
      orElse_none (marked_refused (h.imp_right fun ⟨hm, hbad⟩ => ⟨hm, nodeOfParams_refused ?_⟩))]
    · rfl
    · rw [← or_assoc] at hbad
      exact hbad.imp_right boundOf_refused

end Sys2Proof.Machine
end


section
/-! SUPPORT. The engine sequencer: conditions (O26), standby and reinstate (O27), trips (O28), reports and deadlines (O29). -/

namespace Sys2Proof.Machine

open Sys2Proof

variable {s : State} {p : Port} {b : Bridge} {tag : Byte}

/-! ## State, eligibility and caps (R48, R52, R53) -/

theorem derive_eq (e : Engine) : e.derive =
    if e.configured = false then .ABSENT else if e.standby = true then .STANDBY
    else if e.nodeAvailable = false then .LOST else if e.fault ≠ none then .FAULTED
    else if e.feed = .EMPTY then .STARVED else if e.derate = true ∨ e.tracking = true then .DEGRADED else .ONLINE := by
  simp only [Engine.derive, Bool.not_eq_true', Option.isSome_iff_ne_none, Bool.or_eq_true]

theorem stateCap_eq (x : EngineState) : stateCap x = if x = .ONLINE then 1000 else if x = .DEGRADED then 600 else 0 := by
  cases x <;> rfl

theorem feedCap_eq (c : Nat) (x : FeedLevel) : feedCap c x = if x = .FED then 1000 else if x = .RESERVE then c else 0 := by
  cases x <;> rfl

theorem rederive_eligible_iff (latch : Bool) (e : Engine) : (e.rederive latch).eligible = true ↔
    ((e.rederive latch).state = .ONLINE ∨ (e.rederive latch).state = .DEGRADED) ∧ latch = false := by
  simp [Engine.rederive]

theorem postIf_ne {α : Type} [DecidableEq α] (x y : α) (k : EventKind) (t : State) :
    t.postIf (decide (x ≠ y)) k = if x = y then t else t.post k := by
  by_cases h : x = y <;> simp [State.postIf, h]

/-- Settles O26: the derived fields are those of `rederive`, and `updateEngine` derives, settles and posts. -/
theorem engineConditions : Obligations.EngineConditions := by
  refine ⟨fun e latch => ⟨derive_eq e, rederive_eligible_iff latch e, fun hc => ?_, fun stateCap feedCap hc hst hfeed => ?_, rfl⟩,
    fun e latch dwell => ?_, fun s t i f e he ht => ?_⟩
  · simp [Engine.rederive, hc]
  · subst hst hfeed
    rw [← stateCap_eq, ← feedCap_eq]
    simp [Engine.rederive, hc]
  · simp only [Engine.settle, Engine.toNeutral, Bool.and_eq_true, Bool.not_eq_true']
    rfl
  · subst ht
    have he' : (f s.engines[i]).settle (s.tripLatch.get (f s.engines[i]).cfg.station) s.dwellEnd = e := he.symm
    simp only [State.updateEngine, he', voidShares_one, postIf_ne, Bool.and_eq_true, Bool.not_eq_true']
    rfl

/-! ## SET_STANDBY and REINSTATE (R56, R57) -/

theorem holderOnly_holder (f : Act) (hh : HoldsHelm p b s) : holderOnly p f s = f s := by
  obtain ⟨hb, hholder⟩ := hh
  rw [holderOnly, bridgeInRunning_on _ hb, if_pos hholder]

theorem holderEngine_configured {i : Fin 8} (f : Fin 8 → Act) (hh : HoldsHelm p b s) (hc : s.engines[i].configured = true) :
    holderEngine p (BitVec.ofNat 8 i.val) f s = f i s := by
  rw [holderEngine, holderOnly_holder _ hh, orElse_some (indexOf_fin (by decide) i), if_pos hc]

theorem holderEngine_absent {i : Fin 8} (f : Fin 8 → Act) (hh : HoldsHelm p b s) (hc : s.engines[i].configured = false) :
    holderEngine p (BitVec.ofNat 8 i.val) f s = answer .BAD_VALUE s := by
  rw [holderEngine, holderOnly_holder _ hh, orElse_some (indexOf_fin (by decide) i), hc, if_neg Bool.false_ne_true]

theorem holderEngine_badIndex {slot : Byte} (f : Fin 8 → Act) (hh : HoldsHelm p b s) (hi : 8 ≤ slot.toNat) :
    holderEngine p slot f s = answer .BAD_INDEX s := by
  rw [holderEngine, holderOnly_holder _ hh, orElse_none (indexOf_ge hi)]

theorem readyToReinstate_iff (e : Engine) : e.readyToReinstate = true ↔
    ∃ r, e.lastReport = some r ∧ (r.fault = .NONE ∨ r.fault = .WARNING) ∧ r.gear = e.gear := by
  cases h : e.lastReport <;> simp [Engine.readyToReinstate, h]

/-- A request of the holder is decided in the state that the notice leaves. -/
theorem exec_holder {c : Instr} {code : Byte} {f : Act} {t : State} {r : Result} {body : List Byte}
    (hc : requestParts c = some ⟨p, tag, code, f⟩) (hr : Ready p s) (hh : HoldsHelm p b s)
    (ha : f s.heard = (t, .answered r body)) : exec c s = .next (t.reply p tag r body) := by
  rw [exec_request hc]
  exact request_by_holder hr hh ha

/-- Settles O27: by the slot, the latches and the last report. -/
theorem standbyAndReinstate : Obligations.StandbyAndReinstate := by
  intro p b tag s hr hh
  have hh' := holdsHelm_heard hh
  refine ⟨fun i hc => ⟨exec_holder rfl hr hh ?_, fun hf ht => exec_holder rfl hr hh ?_,
    fun hlatch => ⟨fun hrep => exec_holder rfl hr hh ?_, fun hrep => exec_holder rfl hr hh ?_⟩⟩,
    fun i hc => ⟨exec_holder rfl hr hh ?_, exec_holder rfl hr hh ?_⟩,
    fun slot hi => ⟨exec_holder rfl hr hh ?_, exec_holder rfl hr hh ?_⟩⟩
  · rw [decideSetStandby, holderEngine_configured _ hh' hc, doneWith]
  · have hclear : (s.heard.engines[i].fault.isNone && !s.heard.engines[i].tracking) = true := by
      rw [Bool.and_eq_true, Option.isNone_iff_eq_none, Bool.not_eq_true']
      exact ⟨hf, ht⟩
    rw [decideReinstate, holderEngine_configured _ hh' hc]
    exact if_pos hclear
  · have hclear : ¬(s.heard.engines[i].fault.isNone && !s.heard.engines[i].tracking) = true := by
      rw [Bool.and_eq_true, Option.isNone_iff_eq_none, Bool.not_eq_true']
      exact hlatch
    rw [decideReinstate, holderEngine_configured _ hh' hc]
    exact (if_neg hclear).trans (if_pos ((readyToReinstate_iff _).mpr hrep))
  · have hclear : ¬(s.heard.engines[i].fault.isNone && !s.heard.engines[i].tracking) = true := by
      rw [Bool.and_eq_true, Option.isNone_iff_eq_none, Bool.not_eq_true']
      exact hlatch
    rw [decideReinstate, holderEngine_configured _ hh' hc]
    exact (if_neg hclear).trans (if_neg (mt (readyToReinstate_iff _).mp hrep))
  · rw [decideSetStandby, holderEngine_absent _ hh' hc]
    rfl
  · rw [decideReinstate, holderEngine_absent _ hh' hc]
    rfl
  · rw [decideSetStandby, holderEngine_badIndex _ hh' hi]
    rfl
  · rw [decideReinstate, holderEngine_badIndex _ hh' hi]
    rfl

end Sys2Proof.Machine
end


section
/-! SUPPORT. The engine sequencer: trips (O28), reports, node states and deadlines (O29). -/

namespace Sys2Proof.Machine

open Sys2Proof

variable {s : State} {p : Port} {b : Bridge} {tag : Byte}

/-! ## Trips (R54, R55) -/

theorem ofStation_iff (st : Station) (e : Engine) : e.ofStation st = true ↔ e.configured = true ∧ e.cfg.station = st := by
  simp [Engine.ofStation]

theorem tripAsserted_fresh {st : Station} (hrun : s.running = true) (hl : s.tripLatch.get st = false) :
    tripAsserted st s = State.post .STATION_TRIPPED { s with
      levels := { s.levels with trip := s.levels.trip.set st true }
      tripLatch := s.tripLatch.set st true
      engineResult := s.engineResult.map fun shares : Vector Int 8 => Vector.ofFn fun i : Fin 8 =>
        if s.engines[i].configured = true ∧ s.engines[i].cfg.station = st then 0 else shares[i]
      engines := Vector.ofFn fun i : Fin 8 =>
        if s.engines[i].configured = true ∧ s.engines[i].cfg.station = st then { s.engines[i].rederive true with
          gear := .NEUTRAL, rpm := s.engines[i].cfg.idleRpm, dwell := some (s.now + ms s.params.gearDwell)
          confirm := none, trackDeadline := none, confirmed := false }
        else s.engines[i] } := by
  rw [tripAsserted, if_pos ⟨hrun, hl⟩]
  simp only [State.tripStation, State.seeTrip, State.voidShares, ofStation_iff]
  rfl

theorem decideClearTrip_at {st : Station} (lines : PerStation Bool) (hh : HoldsHelm p b s) :
    decideClearTrip p (BitVec.ofNat 8 st.ctorIdx) lines s =
      if lines.get st then answer .STILL_ASSERTED (s.seeTrip st true) else doneWith (State.clearTrip st) (s.seeTrip st false) := by
  rw [decideClearTrip, holderOnly_holder _ hh, orElse_some (stationOf_code st)]

theorem stationOf_ge {x : Byte} (h : 3 ≤ x.toNat) : stationOf x = none := by
  unfold stationOf
  split <;> simp_all

/-- Settles O28: by the phase and the latch, and by the level of the line. -/
theorem trips : Obligations.Trips := by
  refine ⟨fun st s h => ⟨fun hrun hl => ?_, fun hno => ?_⟩, fun p b tag lines s hr hh => ⟨fun st hst => ?_, fun st hst => ?_,
    fun station hge => ?_⟩⟩
  · rw [exec, execTripLineAsserted, live_awake h, tripAsserted_fresh hrun hl]
  · have hcond : ¬(s.running = true ∧ s.tripLatch.get st = false) := fun ⟨hrun, hl⟩ => by simp [hrun, hl] at hno
    rw [exec, execTripLineAsserted, live_awake h, tripAsserted, if_neg hcond]
    rfl
  · refine exec_holder rfl hr hh ?_
    rw [decideClearTrip_at lines (holdsHelm_heard hh), hst, if_neg Bool.false_ne_true, doneWith, State.clearTrip]
    simp only [ofStation_iff]
    rfl
  · refine exec_holder rfl hr hh ?_
    rw [decideClearTrip_at lines (holdsHelm_heard hh), hst]
    rfl
  · refine exec_holder rfl hr hh ?_
    rw [decideClearTrip, holderOnly_holder _ (holdsHelm_heard hh), orElse_none (stationOf_ge hge)]
    rfl

/-! ## Reports and monitors (R49, R50, R63, R64) -/

theorem takeFault_eq (f : FaultClass) (e : Engine) : e.takeFault f = { e with
    derate := decide (f = .DERATE), fault := if f = .SHUTDOWN ∧ e.fault = none then some .SHUTDOWN else e.fault } := by
  cases f with
  | SHUTDOWN => cases h : e.fault <;> simp [Engine.takeFault, h]
  | _ => simp [Engine.takeFault]

theorem or_eq_ite {α : Type} (o : Option α) (x : α) [Decidable (o = none)] : o.or (some x) = if o = none then some x else o := by
  cases o <;> simp

theorem available_iff (st : NodeState) (n : Option NodeRef) :
    (available st && n.isSome) = decide ((st = .ONLINE ∨ st = .SUSPECT) ∧ n ≠ none) := by
  cases st <;> cases n <;> simp [available]

theorem beyondBand_iff (band a b : Nat) : beyondBand band a b = true ↔ band < ((a : Int) - b).natAbs := by
  simp only [beyondBand, Bool.or_eq_true, decide_eq_true_eq]
  omega

/-- A hand-over taken in RUNNING whose owner does nothing with it. -/
theorem taken_idle {i : Instr} {f : State → State} (h : Running s) (hf : f (s.takeHandover i) = s.takeHandover i) :
    taken i f s = .next (s.takeHandover i) := by
  rw [taken_running h, hf]

/-- R50: the slot as a report leaves it, before the monitors look at it. -/
theorem engineReport_eq {t : State} (i : Fin 8) (r : EngineReport)
    (ht : t = s.updateEngine i fun e => { e with
      lastReport := some r
      reportAt := some s.now
      derate := decide (r.fault = .DERATE)
      fault := if r.fault = .SHUTDOWN ∧ e.fault = none then some .SHUTDOWN else e.fault }) :
    s.engineReport i r = { t with
      engines := t.engines.set i
        ((t.engines[i].confirmMonitor (s.now + ms 4000) r).trackMonitor s.params.trackingBand (s.now + ms 10000) r) } := by
  have hstored : (s.updateEngine i fun e => { e with lastReport := some r, reportAt := some s.now }.takeFault r.fault) = t := by
    rw [ht]
    simp only [takeFault_eq]
  have ⟨⟨⟨⟨hnow, _⟩, _, ⟨hparams, _⟩, _⟩, _⟩, _⟩ := updateEngine_keeps i (fun e => { e with
      lastReport := some r
      reportAt := some s.now
      derate := decide (r.fault = .DERATE)
      fault := if r.fault = .SHUTDOWN ∧ e.fault = none then some .SHUTDOWN else e.fault }) s
  rw [← ht] at hnow hparams
  rw [State.engineReport, hstored, ← hnow, ← hparams]
  rfl

theorem confirmMonitor_off (r : EngineReport) (n : Nat) {e : Engine} (hg : e.gear = .NEUTRAL) : e.confirmMonitor n r = e :=
  if_pos hg

theorem confirmMonitor_waiting (r : EngineReport) (n : Nat) {e : Engine} (hg : e.gear ≠ .NEUTRAL) (hc : e.confirm ≠ none) :
    e.confirmMonitor n r = if r.gear = e.gear then { e with confirm := none, confirmed := true } else e := by
  rw [Engine.confirmMonitor, if_neg hg, if_pos (Option.isSome_iff_ne_none.mpr hc)]

theorem confirmMonitor_done (r : EngineReport) (n : Nat) {e : Engine} (hg : e.gear ≠ .NEUTRAL) (hc : e.confirm = none) :
    e.confirmMonitor n r = if e.confirmed = true ∧ r.gear ≠ e.gear
      then { e with confirmed := false, confirm := some n, trackDeadline := none } else e := by
  rw [Engine.confirmMonitor, if_neg hg, hc, if_neg (by simp)]

theorem trackMonitor_on (r : EngineReport) (band n : Nat) {e : Engine} (hg : e.gear ≠ .NEUTRAL) (hc : e.confirmed = true) :
    e.trackMonitor band n r = if band < ((r.rpm : Int) - e.rpm).natAbs then { e with trackDeadline := e.trackDeadline.or (some n) }
      else { e with trackDeadline := none } := by
  rw [Engine.trackMonitor, if_pos ⟨hg, hc⟩]
  simp only [beyondBand_iff]

/-- Settles O29: a hand-over of a configured slot, the two monitors by their cases, and the three deadlines. -/
theorem engineReportsTaken : Obligations.EngineReportsTaken := by
  refine ⟨fun i r st s t h => ⟨fun hc ht => ?_, fun hc => ?_, fun hc => ⟨?_, ?_⟩⟩, fun e r n => ⟨fun hg => ?_, fun hg hc hr => ?_,
    fun hg hc hr => ?_, fun hg hc hd hr => ?_, fun hg hc hno => ?_⟩, fun e r band n => ⟨fun hno => ?_, fun hg hc hle => ?_,
    fun hg hc hlt => ?_⟩, fun i d s h => ⟨fun hd => ?_, fun hd => ?_, fun hd => ?_⟩, fun i s => ⟨?_, ?_, ?_⟩⟩
  · rw [exec, execEngineReportTaken, taken_running h, if_pos (by exact hc), engineReport_eq i r ht]
    rfl
  · rw [exec, execEngineNodeStateTaken, taken_running h, if_pos (by exact hc)]
    simp only [available_iff]
  · exact taken_idle h (if_neg (by rw [show (s.takeHandover _).engines = s.engines from rfl, hc]; exact Bool.false_ne_true))
  · exact taken_idle h (if_neg (by rw [show (s.takeHandover _).engines = s.engines from rfl, hc]; exact Bool.false_ne_true))
  · exact confirmMonitor_off r n hg
  · rw [confirmMonitor_waiting r n hg hc, if_pos hr]
  · rw [confirmMonitor_waiting r n hg hc, if_neg hr]
  · rw [confirmMonitor_done r n hg hc, if_pos ⟨hd, hr⟩]
  · rw [confirmMonitor_done r n hg hc, if_neg]
    rintro ⟨hd, hr⟩
    simp [hd, hr] at hno
  · rw [Engine.trackMonitor, if_neg]
    rintro ⟨hg, hd⟩
    simp [hg, hd] at hno
  · rw [trackMonitor_on r band n hg hc, if_neg (Nat.not_lt.mpr hle)]
  · rw [trackMonitor_on r band n hg hc, if_pos hlt]
    cases e.trackDeadline <;> rfl
  · rw [exec, execDwellDeadlineExpiry, live_awake h, hd, onExpiry_some]
    rfl
  · rw [exec, execGearConfirmExpiry, live_awake h, hd, onExpiry_some]
    simp only [or_eq_ite]
    rfl
  · rw [exec, execTrackingDeadlineExpiry, live_awake h, hd, onExpiry_some]
    rfl
  · exact exec_absent (d := fun s => s.engines[i].dwell)
  · exact exec_absent (d := fun s => s.engines[i].confirm)
  · exact exec_absent (d := fun s => s.engines[i].trackDeadline)

end Sys2Proof.Machine
end


section
/-! SUPPORT. The rudder controller: faults, reports and node states (O32), and the targets at a pass result (O33). -/

namespace Sys2Proof.Machine

open Sys2Proof

variable {s : State} {p : Port} {b : Bridge} {tag : Byte}

/-! ## Requests (R70, R78) -/

theorem rudderDerive_eq (r : Rudder) : r.derive = if r.configured = false then .ABSENT else if r.jam = true then .JAMMED
    else if r.nodeAvailable = false then .LOST else .ONLINE := by
  simp only [Rudder.derive, Bool.not_eq_true']

theorem near_iff (a b : Int) : near a b = true ↔ (a - b).natAbs ≤ 50 := by simp [near]

theorem follows_iff (r : Rudder) : r.follows = true ↔
    r.nodeAvailable = true ∧ ∃ a, r.lastAngle = some a ∧ (a - r.commanded).natAbs ≤ 50 := by
  cases h : r.lastAngle <;> simp [Rudder.follows, h, near_iff]

theorem ne_false_of {x : Bool} (h : x = true) : ¬x = false := by simp [h]

theorem ne_true_of {x : Bool} (h : x = false) : ¬x = true := by simp [h]

/-- R78: the checks of the request, on the slot as it stands; the notice leaves the rudders. -/
theorem decideClearRudderFault_heard (i : Fin 8) (hh : HoldsHelm p b s) :
    decideClearRudderFault p (BitVec.ofNat 8 i.val) s.heard =
      if s.rudders[i].configured = false then answer .BAD_VALUE s.heard
      else if s.rudders[i].jam = false then answer .DONE s.heard
      else if s.rudders[i].follows = true
      then doneWith (State.updateRudder i fun r => { r with jam := false, jamDeadline := none }) s.heard
      else answer .NOT_READY s.heard := by
  rw [decideClearRudderFault, holderOnly_holder _ (holdsHelm_heard hh), orElse_some (indexOf_fin (by decide) i)]
  simp only [Bool.not_eq_true']
  rfl

/-! ## Reports and node states (R71 to R73) -/

theorem report_offline (a : Int) (n : Nat) {r : Rudder} (h : r.state ≠ .ONLINE) : r.report a n = { r with lastAngle := some a } := by
  rw [Rudder.report, if_neg h]

theorem report_near (n : Nat) {a : Int} {r : Rudder} (h : r.state = .ONLINE) (ha : (a - r.commanded).natAbs ≤ 50) :
    r.report a n = { r with lastAngle := some a, jamDeadline := none } := by
  rw [Rudder.report, if_pos h, if_pos ((near_iff _ _).mpr ha)]

theorem report_far (n : Nat) {a : Int} {r : Rudder} (h : r.state = .ONLINE) (ha : 50 < (a - r.commanded).natAbs) :
    r.report a n = { r with lastAngle := some a, jamDeadline := some (r.jamDeadline.getD n) } := by
  rw [Rudder.report, if_pos h, if_neg (mt (near_iff _ _).mp (Nat.not_le.mpr ha))]
  cases r.jamDeadline <;> rfl

theorem exec_rudderReport (i : Fin 8) (a : Int) (h : Running s) (hc : s.rudders[i].configured = true) :
    exec (.rudderReportTaken i a) s = .next { s.takeHandover (.rudderReportTaken i a) with
      rudders := s.rudders.set i (s.rudders[i].report a (s.now + ms 3000)) } := by
  rw [exec, execRudderReportTaken, taken_running h, if_pos (by exact hc)]
  rfl

theorem exec_rudderNode (i : Fin 8) (st : NodeState) (h : Running s) (hc : s.rudders[i].configured = true) :
    exec (.rudderNodeStateTaken i st) s = .next
      ((s.takeHandover (.rudderNodeStateTaken i st)).updateRudder i (Rudder.nodeChange (available st))) := by
  rw [exec, execRudderNodeStateTaken, taken_running h, if_pos (by exact hc)]

/-- Settles O32: by the conditions of the slot and the angle reported. -/
theorem rudderFaultsAndReports : Obligations.RudderFaultsAndReports := by
  refine ⟨⟨fun p b tag s hr hh => ⟨fun i hc hj => ⟨fun hf => ?_, fun hf => ?_⟩, fun i hc hj => ?_, fun i hc => ?_, fun slot hi => ?_⟩,
    fun s i f r hr => ?_⟩, fun i a st s h hc => ⟨fun hst => ?_, fun hst ha => ?_, fun hst ha => ?_, fun hst => ?_, fun hst => ?_⟩,
    fun i a st s h hc => ⟨taken_idle h (if_neg (ne_true_of hc)), taken_idle h (if_neg (ne_true_of hc))⟩,
    fun i d s h hd => ?_, fun i s => exec_absent (d := fun s => s.rudders[i].jamDeadline)⟩
  · refine exec_holder rfl hr hh ?_
    rw [decideClearRudderFault_heard i hh, if_neg (ne_false_of hc), if_neg (ne_false_of hj), if_pos ((follows_iff _).mpr hf)]
    rfl
  · refine exec_holder rfl hr hh ?_
    rw [decideClearRudderFault_heard i hh, if_neg (ne_false_of hc), if_neg (ne_false_of hj), if_neg (mt (follows_iff _).mp hf)]
    rfl
  · refine exec_holder rfl hr hh ?_
    rw [decideClearRudderFault_heard i hh, if_neg (ne_false_of hc), if_pos hj]
    rfl
  · refine exec_holder rfl hr hh ?_
    rw [decideClearRudderFault_heard i hh, if_pos hc]
    rfl
  · refine exec_holder rfl hr hh ?_
    rw [decideClearRudderFault, holderOnly_holder _ (holdsHelm_heard hh), orElse_none (indexOf_ge hi)]
    rfl
  · rw [← rudderDerive_eq] at hr
    subst hr
    exact postIf_ne _ _ _ _
  · rw [exec_rudderReport i a h hc, report_offline a _ hst]
  · rw [exec_rudderReport i a h hc, report_near _ hst ha]
  · rw [exec_rudderReport i a h hc, report_far _ hst ha]
  · rw [exec_rudderNode i st h hc]
    rcases hst with rfl | rfl <;> rfl
  · rw [exec_rudderNode i st h hc]
    rcases hst with rfl | rfl <;> rfl
  · rw [exec, execJamDeadlineExpiry, live_awake h, hd, onExpiry_some]
    rfl

/-! ## Targets (R74 to R77) -/

theorem backing_iff (st : Station) : s.backing st = true ↔ ∃ i : Fin 8, s.engines[i].configured = true
    ∧ s.engines[i].cfg.axis = .AHEAD ∧ s.engines[i].cfg.station = st ∧ s.engines[i].gear = .ASTERN := by
  simp only [State.backing, List.any_eq_true, Bool.and_eq_true, decide_eq_true_eq, and_assoc, isAhead_iff,
    Vector.mem_toList_iff, Vector.mem_iff_getElem]
  constructor
  · rintro ⟨r, ⟨i, hi, rfl⟩, h⟩
    exact ⟨⟨i, hi⟩, h⟩
  · rintro ⟨i, h⟩
    exact ⟨_, ⟨i.val, i.isLt, rfl⟩, h⟩

theorem targetAngle_eq (g : RudderCfg) (mode : Mode) (backing : Bool) (uLim : Int) : g.targetAngle mode backing uLim =
    if mode = .STOP then 0
    else if g.kind = .MAIN ∧ backing = false then (uLim * g.maxAngle).tdiv 1000
    else if g.kind = .FLANKING ∧ backing = true then (-uLim * g.maxAngle).tdiv 1000 else 0 := by
  unfold RudderCfg.targetAngle
  cases hk : g.kind <;> cases backing <;> simp

theorem slewTo_eq (step : Nat) (target angle : Int) : slewTo step target angle =
    if (target - angle).natAbs ≤ step then target else if angle < target then angle + step else angle - step := by
  unfold slewTo clampInt
  split
  · omega
  · split <;> omega

/-- The backing view as a value of each station. -/
theorem get_backing (st : Station) : ({ lead := s.backing .LEAD, helper := s.backing .HELPER, bow := s.backing .BOW } :
    PerStation Bool).get st = s.backing st := by
  cases st <;> rfl

theorem applyResult_eq (mode : Mode) (backing : Bool) (uLim : Int) (r : Rudder) : r.applyResult mode backing uLim = { r with
    target := r.cfg.targetAngle mode backing uLim
    commanded := if r.state = .ONLINE
      then slewTo (max 1 (r.cfg.slew / 10) : Nat) (r.cfg.targetAngle mode backing uLim) r.commanded else r.commanded } := rfl

/-- Settles O33: the station view, the target by kind and backing, and one step of the slew. -/
theorem ruddersFollow : Obligations.RuddersFollow := by
  refine ⟨fun x s backing h hx hb => ?_, fun s hx => ?_, fun s st => backing_iff st,
    fun r mode backing uLim target step ht hs => ⟨fun hst => ?_, fun hst hle => ?_, fun hst hlt => ?_, fun hst hlt => ?_⟩⟩
  · subst hb
    rw [exec, execPassResultTakenRudders, live_awake h]
    simp only [hx, State.applyRudders, get_backing]
    rfl
  · rw [exec, execPassResultTakenRudders, live_eq]
    simp only [hx, ite_self]
  all_goals rw [← targetAngle_eq] at ht; subst ht hs
  · rw [applyResult_eq, if_neg hst]
  · rw [applyResult_eq, if_pos hst, slewTo_eq, if_pos hle]
  · rw [applyResult_eq, if_pos hst, slewTo_eq, if_neg (by omega), if_pos (by omega)]
  · rw [applyResult_eq, if_pos hst, slewTo_eq, if_neg (by omega), if_neg (by omega)]

end Sys2Proof.Machine
end


section
/-! SUPPORT. The coupling supervisor: the change of state (O34) and the requests (O35). -/

namespace Sys2Proof.Machine

open Sys2Proof

variable {s : State} {p : Port} {b : Bridge} {tag : Byte}

/-! ## A change of state (R85, R98) -/

theorem commandOf_eq (st : CouplingState) : commandOf st =
    if st = .MAKING_UP then .HEAVE else if st = .RENDERING then .RENDER
    else if st = .RELEASING ∨ st = .RELEASED then .RELEASE else .BRAKE := by
  cases st <;> rfl

theorem entryDeadline_eq (st : CouplingState) : s.entryDeadline st =
    if st = .MAKING_UP then some { kind := .heave, time := s.now + ms 60000 }
    else if st = .RELEASING then some { kind := .release, time := s.now + ms 30000 } else none := by
  cases st <;> rfl

theorem enter_eq (c : Coupling) (st : CouplingState) : c.enter st (s.entryDeadline st) = { c with
    state := st
    command := if st = .MAKING_UP then .HEAVE else if st = .RENDERING then .RENDER
      else if st = .RELEASING ∨ st = .RELEASED then .RELEASE else .BRAKE
    deadline := if st = .MAKING_UP then some { kind := .heave, time := s.now + ms 60000 }
      else if st = .RELEASING then some { kind := .release, time := s.now + ms 30000 } else none
    overloads := if st = .RENDERING then min 65535 (c.overloads + 1) else c.overloads } := by
  rw [← commandOf_eq, ← entryDeadline_eq]
  rfl

theorem publishCeilings_eq (s : State) : s.publishCeilings =
    if s.ceilingsNow = s.ceilings then s else State.post .CEILING_CHANGED { s with ceilings := s.ceilingsNow } := by
  rw [State.publishCeilings, postIf_ne]
  split
  · rename_i h
    rw [h]
  · rfl

/-! ## The ceilings (R99) -/

/-- R99: the least of the factors counted and of a number to begin with. -/
def leastFactor (f : Coupling → Option Nat) (m : Nat) (c : Coupling) : Nat :=
  match f c with
  | some x => min m x
  | none => m

theorem leastFactor_some {f : Coupling → Option Nat} {m x : Nat} {c : Coupling} (h : f c = some x) :
    leastFactor f m c = min m x := by simp [leastFactor, h]

theorem leastFactor_none {f : Coupling → Option Nat} {m : Nat} {c : Coupling} (h : f c = none) :
    leastFactor f m c = m := by simp [leastFactor, h]

theorem foldl_leastFactor (f : Coupling → Option Nat) (l : List Coupling) (m : Nat) :
    l.foldl (leastFactor f) m ≤ m ∧ (∀ c ∈ l, ∀ x, f c = some x → l.foldl (leastFactor f) m ≤ x)
      ∧ (l.foldl (leastFactor f) m ≠ m → ∃ c ∈ l, f c = some (l.foldl (leastFactor f) m)) := by
  induction l generalizing m with
  | nil => simp
  | cons c l ih =>
    obtain ⟨hle, hall, hex⟩ := ih (leastFactor f m c)
    rw [List.foldl_cons]
    cases hc : f c with
    | none =>
      rw [leastFactor_none hc] at hle hall hex ⊢
      refine ⟨hle, fun d hd x hx => ?_, fun hne => ?_⟩
      · rcases List.mem_cons.mp hd with rfl | hd
        · rw [hc] at hx
          cases hx
        · exact hall d hd x hx
      · obtain ⟨d, hd, hx⟩ := hex hne
        exact ⟨d, List.mem_cons_of_mem _ hd, hx⟩
    | some y =>
      rw [leastFactor_some hc] at hle hall hex ⊢
      refine ⟨by omega, fun d hd x hx => ?_, fun hne => ?_⟩
      · rcases List.mem_cons.mp hd with rfl | hd
        · rw [hc] at hx
          cases hx
          omega
        · exact hall d hd x hx
      · by_cases hmin : l.foldl (leastFactor f) (min m y) = min m y
        · refine ⟨c, List.mem_cons_self, ?_⟩
          rw [hmin, hc]
          exact congrArg some (by omega)
        · obtain ⟨d, hd, hx⟩ := hex hmin
          exact ⟨d, List.mem_cons_of_mem _ hd, hx⟩

theorem ceilingOf_eq (f : Coupling → Option Nat) (v : Vector Coupling 24) : ceilingOf f v = v.toList.foldl (leastFactor f) 1000 := rfl

theorem ceilingOf_bounds (f : Coupling → Option Nat) (v : Vector Coupling 24) :
    ceilingOf f v ≤ 1000 ∧ (∀ (i : Fin 24) (x : Nat), f v[i] = some x → ceilingOf f v ≤ x)
      ∧ (ceilingOf f v ≠ 1000 → ∃ i : Fin 24, f v[i] = some (ceilingOf f v)) := by
  obtain ⟨hle, hall, hex⟩ := foldl_leastFactor f v.toList 1000
  rw [← ceilingOf_eq] at hle hall hex
  refine ⟨hle, fun i x hx => hall v[i] (by simp) x hx, fun hne => ?_⟩
  obtain ⟨c, hc, hx⟩ := hex hne
  obtain ⟨i, hi, rfl⟩ := Vector.mem_iff_getElem.mp (Vector.mem_toList_iff.mp hc)
  exact ⟨⟨i, hi⟩, hx⟩

theorem thrustFactor_eq (q : Params) (st : CouplingState) (h : st ≠ .UNUSED) : thrustFactor q st =
    if st = .MADE_UP then some 1000 else if st = .STRAINED then some q.strainFactor
    else if st = .RENDERING then some 300 else if st = .SLACK ∨ st = .MAKING_UP then some 400
    else if st = .UNKNOWN ∨ st = .WINCH_FAULT then some 500 else some q.releaseThreshold := by
  cases st with
  | UNUSED => exact absurd rfl h
  | _ => rfl

theorem turnFactor_eq (st : CouplingState) (h : st ≠ .UNUSED) : turnFactor st =
    if st = .MADE_UP then some 1000 else if st = .STRAINED then some 600
    else if st = .RENDERING then some 300 else if st = .SLACK ∨ st = .MAKING_UP then some 700 else some 500 := by
  cases st with
  | UNUSED => exact absurd rfl h
  | _ => rfl

theorem counted_eq (used : Bool) (kind out : CouplingKind) (st : CouplingState) (x y : Option Nat) (hnone : st = .UNUSED → x = none)
    (hsome : st ≠ .UNUSED → x = y) : (if (used && decide (kind ≠ out)) = true then x else none) =
    if used = false ∨ kind = out ∨ st = .UNUSED then none else y := by
  by_cases hst : st = .UNUSED
  · simp [hst, hnone hst]
  · rw [hsome hst]
    cases used <;> by_cases hk : kind = out <;> simp [hk, hst]

/-- Settles O34: the fields of the entry, the posts in their order, and the least factor counted. -/
theorem couplingStateChange : Obligations.CouplingStateChange := by
  refine ⟨fun s i c d st t hd ht => ?_, publishCeilings_eq, fun s => ⟨?_, ?_⟩, fun c q => ⟨?_, ?_⟩⟩
  · rw [← enter_eq] at hd
    subst hd ht
    by_cases hst : st = .RENDERING
    · rw [if_pos hst, State.enterCoupling, decide_eq_true hst]
      rfl
    · rw [if_neg hst, State.enterCoupling, decide_eq_false hst]
      rfl
  · obtain ⟨hc, hall, hex⟩ := ceilingOf_bounds (Coupling.thrust s.params) s.couplings
    exact ⟨hc, hall, hex⟩
  · exact ceilingOf_bounds Coupling.turn s.couplings
  · exact counted_eq _ _ _ _ _ _ (fun h => by rw [h]; rfl) (thrustFactor_eq q c.state)
  · exact counted_eq _ _ _ _ _ _ (fun h => by rw [h]; rfl) (turnFactor_eq c.state)

/-! ## Requests (R89, R90, R93, R95, R96) -/

theorem holderCoupling_used {i : Fin 24} (f : Fin 24 → Act) (hh : HoldsHelm p b s) (hc : s.couplings[i].used = true) :
    holderCoupling p (BitVec.ofNat 8 i.val) f s.heard = f i s.heard := by
  rw [holderCoupling, holderOnly_holder _ (holdsHelm_heard hh), orElse_some (indexOf_fin (by decide) i)]
  exact if_pos hc

theorem holderCoupling_unused {i : Fin 24} (f : Fin 24 → Act) (hh : HoldsHelm p b s) (hc : s.couplings[i].used = false) :
    holderCoupling p (BitVec.ofNat 8 i.val) f s.heard = answer .BAD_VALUE s.heard := by
  rw [holderCoupling, holderOnly_holder _ (holdsHelm_heard hh), orElse_some (indexOf_fin (by decide) i)]
  exact if_neg (ne_true_of hc)

theorem holderCoupling_badIndex {index : Byte} (f : Fin 24 → Act) (hh : HoldsHelm p b s) (hi : 24 ≤ index.toNat) :
    holderCoupling p index f s.heard = answer .BAD_INDEX s.heard := by
  rw [holderCoupling, holderOnly_holder _ (holdsHelm_heard hh), orElse_none (indexOf_ge hi)]

theorem interlocked_iff (k : CouplingKind) : interlocked k s = true ↔
    s.params.releaseThreshold < (if k = .LATERAL then s.alloc.uLim else s.alloc.tLim).natAbs := by
  cases k <;> simp [interlocked]

/-- R96: the checks of a release, in their order, on an entry not yet released. -/
theorem releaseEntry_eq (i : Fin 24) (h1 : s.couplings[i].state ≠ .RELEASING) (h2 : s.couplings[i].state ≠ .RELEASED) :
    releaseEntry i s =
      if s.couplings[i].nodeAvailable = false then answer .NODE_UNAVAILABLE s
      else if s.params.releaseThreshold < (if s.couplings[i].cfg.kind = .LATERAL then s.alloc.uLim else s.alloc.tLim).natAbs
      then answer .UNSAFE s else enterOnRequest i .RELEASING s := by
  simp only [releaseEntry, interlocked_iff, Bool.not_eq_true']
  exact if_neg (not_or.mpr ⟨h1, h2⟩)

theorem clampBand_eq (g : CouplingCfg) (band : Nat) : g.clampBand band =
    min ((g.strainLevel - g.slackLevel - 2) / 2) (min (g.recoveryLevel - g.slackLevel - 1) band) := by
  simp only [CouplingCfg.clampBand, clampNat]
  omega

theorem clampTarget_eq (g : CouplingCfg) (band target : Nat) : g.clampTarget band target =
    max (g.slackLevel + 1 + band) (min (min (g.strainLevel - 1 - band) g.recoveryLevel) target) := rfl

theorem makeUp_enters {i : Fin 24} {st : CouplingState} (h : st = .SLACK ∨ st = .RELEASED ∨ st = .MADE_UP) :
    makeUpIn i st = enterOnRequest i .MAKING_UP := by
  rcases h with rfl | rfl | rfl <;> rfl

theorem makeUp_notReady {i : Fin 24} {st : CouplingState} (h : st = .UNKNOWN ∨ st = .STRAINED ∨ st = .RENDERING
    ∨ st = .RELEASING ∨ st = .WINCH_FAULT) : makeUpIn i st = answer .NOT_READY := by
  rcases h with rfl | rfl | rfl | rfl | rfl <;> rfl

theorem enterOnRequest_heard (i : Fin 24) (st : CouplingState) : enterOnRequest i st s.heard =
    (s.heard.enterCoupling i s.couplings[i] st, .answered .DONE []) := rfl

/-- The four requests of an entry, as `holderCoupling` of what each does. -/
theorem couplingRequest_parts {index : Byte} {target band : Half} {c : Instr} (hc : c = .makeUp p tag index
    ∨ c = .releaseCoupling p tag index ∨ c = .resetCoupling p tag index ∨ c = .setTension p tag index target band) :
    ∃ code f, requestParts c = some ⟨p, tag, code, holderCoupling p index f⟩ := by
  rcases hc with rfl | rfl | rfl | rfl <;> exact ⟨_, _, rfl⟩

/-- Settles O35: by the state of the entry, and by the clamps of SET_TENSION. -/
theorem couplingRequests : Obligations.CouplingRequests := by
  refine ⟨fun p b tag s hr hh => ⟨fun i c hc hu => ?_, fun index target band c hc => ⟨fun hi => ?_, fun i hi hu => ?_⟩⟩,
    fun p b tag i target band s g bd tg hr hh hu hg hbd htg => ?_, fun g band target hg => ?_⟩
  · subst hc
    refine ⟨fun hst => ?_, fun hst => ?_, fun hst => ?_, fun hst => ?_, fun h1 h2 => ⟨fun hn => ?_, fun hn hlt => ?_,
      fun hn hle => ?_⟩, fun hst => ?_, fun hst => ?_⟩
    · refine exec_holder rfl hr hh ?_
      rw [decideMakeUp, holderCoupling_used _ hh hu, show s.heard.couplings = s.couplings from rfl, makeUp_enters hst,
        enterOnRequest_heard]
    · refine exec_holder rfl hr hh ?_
      rw [decideMakeUp, holderCoupling_used _ hh hu, show s.heard.couplings = s.couplings from rfl, hst]
      rfl
    · refine exec_holder rfl hr hh ?_
      rw [decideMakeUp, holderCoupling_used _ hh hu, show s.heard.couplings = s.couplings from rfl, makeUp_notReady hst]
      rfl
    · refine exec_holder rfl hr hh ?_
      rw [decideReleaseCoupling, holderCoupling_used _ hh hu]
      exact if_pos hst
    · refine exec_holder rfl hr hh ?_
      rw [decideReleaseCoupling, holderCoupling_used _ hh hu, releaseEntry_eq i (by exact h1) (by exact h2)]
      exact if_pos hn
    · refine exec_holder rfl hr hh ?_
      rw [decideReleaseCoupling, holderCoupling_used _ hh hu, releaseEntry_eq i (by exact h1) (by exact h2)]
      exact (if_neg (ne_false_of hn)).trans (if_pos hlt)
    · refine exec_holder rfl hr hh ?_
      rw [decideReleaseCoupling, holderCoupling_used _ hh hu, releaseEntry_eq i (by exact h1) (by exact h2)]
      exact (if_neg (ne_false_of hn)).trans (if_neg (Nat.not_lt.mpr hle))
    · refine exec_holder rfl hr hh ?_
      rw [decideResetCoupling, holderCoupling_used _ hh hu]
      exact if_pos hst
    · refine exec_holder rfl hr hh ?_
      rw [decideResetCoupling, holderCoupling_used _ hh hu]
      exact if_neg hst
  · obtain ⟨code, f, hparts⟩ := couplingRequest_parts hc
    exact exec_holder hparts hr hh (holderCoupling_badIndex f hh hi)
  · obtain ⟨code, f, hparts⟩ := couplingRequest_parts hc
    subst hi
    exact exec_holder hparts hr hh (holderCoupling_unused f hh hu)
  · refine exec_holder rfl hr hh ?_
    rw [← clampBand_eq] at hbd
    rw [← clampTarget_eq] at htg
    subst hg hbd htg
    rw [decideSetTension, holderCoupling_used _ hh hu]
    rfl
  · rw [clampTarget_eq, clampBand_eq]
    omega

end Sys2Proof.Machine
end


section
/-! SUPPORT. The coupling supervisor: winch reports (O36), node states and deadlines (O37). -/

namespace Sys2Proof.Machine

open Sys2Proof

variable {s : State}

/-! ## The state that a report leads to (R88, R90 to R92, R94, R97) -/

theorem winchReport_to {i : Fin 24} {r : WinchReport} {c : Coupling} {st : CouplingState}
    (hc : c = s.couplings[i].store s.now (s.after 2000) r) (hst : reportedState c.cfg r c.state = some st) :
    s.winchReport i r = s.enterCoupling i c st := by
  subst hc
  simp only [State.winchReport, hst]

theorem winchReport_stays {i : Fin 24} {r : WinchReport} {c : Coupling}
    (hc : c = s.couplings[i].store s.now (s.after 2000) r) (hst : reportedState c.cfg r c.state = none) :
    s.winchReport i r =
      if c.state = .MADE_UP then s.setCoupling i (c.watchSlack (s.after 10000) r.tension) else s.setCoupling i c := by
  subst hc
  simp only [State.winchReport, hst]

theorem watchSlack_below {c : Coupling} {n tension : Nat} (h : tension < c.cfg.slackLevel) : c.watchSlack n tension =
    { c with deadline := some (c.deadline.getD { kind := .slackDwell, time := n }) } := by
  rw [Coupling.watchSlack, if_pos h]
  cases c.deadline <;> rfl

theorem deadlineOf_isSome (c : Coupling) (k : StateDeadlineKind) :
    (c.deadlineOf k).isSome = true ↔ ∃ d, c.deadline = some ⟨k, d⟩ := by
  rw [Option.isSome_iff_exists]
  exact exists_congr fun d => deadlineOf_eq_some c k d

theorem watchSlack_above {c : Coupling} {n tension : Nat} (h : c.cfg.slackLevel ≤ tension) : c.watchSlack n tension =
    { c with deadline := if (c.deadlineOf .slackDwell).isSome then none else c.deadline } := by
  rw [Coupling.watchSlack, if_neg (Nat.not_lt.mpr h)]
  by_cases hd : ∃ d, c.deadline = some ⟨.slackDwell, d⟩
  · rw [if_pos ((deadlineOf_isSome _ _).mpr hd)]
    obtain ⟨d, hd⟩ := hd
    rw [hd]
  · rw [if_neg (mt (deadlineOf_isSome _ _).mp hd)]
    split
    · rename_i t ht
      exact absurd ⟨t, ht⟩ hd
    · rfl

theorem indicated_eq (g : CouplingCfg) (r : WinchReport) : indicated g r =
    if r.drum = .FAULT then .WINCH_FAULT else if r.drum = .RELEASED then .RELEASED
    else if r.tension < g.slackLevel then .SLACK else if r.tension < g.strainLevel then .MADE_UP
    else if r.tension < g.renderLevel then .STRAINED else .RENDERING := by
  cases h : r.drum <;> simp [indicated, h]

theorem some_ite {α : Type} (c : Prop) [Decidable c] (x y : α) : some (if c then x else y) = if c then some x else some y := by
  split <;> rfl

theorem exec_winchReport (i : Fin 24) (r : WinchReport) (h : Running s) (hu : s.couplings[i].used = true) :
    exec (.winchReportTaken i r) s = .next ((s.takeHandover (.winchReportTaken i r)).winchReport i r) := by
  rw [exec, execWinchReportTaken, taken_running h, if_pos (by exact hu)]

/-- Settles O36: the report is stored, and the state it leads to is that of the table. -/
theorem winchReportsTaken : Obligations.WinchReportsTaken := by
  refine ⟨fun i r s t c h hu ht hc => ?_, fun g r x y z hx hy hz => ⟨rfl, rfl, ?_, ?_, ?_, ?_, ?_, ?_, rfl, ?_⟩⟩
  · rw [exec_winchReport i r h hu, ← ht]
    have hstored : c = t.couplings[i].store t.now (t.after 2000) r := by rw [hc, ht]; rfl
    have hcouplings : t.couplings = s.couplings := by rw [ht]; rfl
    have hnow : t.now = s.now := by rw [ht]; rfl
    refine ⟨fun st hst => by rw [winchReport_to hstored hst], fun hst => ⟨fun hm hlt => ?_, fun hm hge => ?_, fun hm => ?_⟩⟩
    · rw [winchReport_stays hstored hst, if_pos hm, watchSlack_below hlt, State.setCoupling, hcouplings, State.after, hnow]
    · rw [winchReport_stays hstored hst, if_pos hm, watchSlack_above hge, State.setCoupling, hcouplings]
    · rw [winchReport_stays hstored hst, if_neg hm, State.setCoupling, hcouplings]
  · rw [hx]
    rfl
  · rw [hy]
    simp only [reportedState, CouplingCfg.atTarget, decide_eq_true_eq]
  · rw [hy]
    simp only [reportedState, CouplingCfg.atTarget, decide_eq_true_eq]
  · rw [hz]
    rfl
  · cases hd : r.drum <;> simp [reportedState, hd]
  · rw [hz]
    cases hd : r.drum <;> simp [reportedState, hd]
  · rw [reportedState, indicated_eq]
    simp only [some_ite]

/-! ## Node states and deadlines (R87, R92, R94, R97) -/

theorem watched_iff (st : CouplingState) : st.watched = true ↔ st ≠ .UNUSED ∧ st ≠ .UNKNOWN ∧ st ≠ .WINCH_FAULT := by
  cases st <;> simp [CouplingState.watched]

theorem loseSight_unwatched {i : Fin 24} {c kept : Coupling} (h : c.state = .UNUSED ∨ c.state = .UNKNOWN ∨ c.state = .WINCH_FAULT) :
    s.loseSight i c kept = s.setCoupling i kept := by
  rw [State.loseSight, if_neg]
  rw [watched_iff]
  rcases h with h | h | h <;> simp [h]

theorem loseSight_watched {i : Fin 24} {c kept : Coupling} (h1 : c.state ≠ .UNUSED) (h2 : c.state ≠ .UNKNOWN)
    (h3 : c.state ≠ .WINCH_FAULT) : s.loseSight i c kept = s.enterCoupling i { c with freshness := none } .UNKNOWN := by
  rw [State.loseSight, if_pos ((watched_iff _).mpr ⟨h1, h2, h3⟩)]

theorem available_eq (st : NodeState) : available st = decide (st = .ONLINE ∨ st = .SUSPECT) := by cases st <;> rfl

theorem exec_winchNode (i : Fin 24) (st : NodeState) (h : Running s) (hu : s.couplings[i].used = true) :
    exec (.winchNodeStateTaken i st) s = .next
      ((s.takeHandover (.winchNodeStateTaken i st)).winchNode i (decide (st = .ONLINE ∨ st = .SUSPECT))) := by
  rw [exec, execWinchNodeStateTaken, taken_running h, if_pos (by exact hu), available_eq]

theorem winchNode_up {i : Fin 24} {c : Coupling} {up : Bool} (hc : c = { s.couplings[i] with nodeAvailable := up })
    (h : c.nodeAvailable = true ∨ c.state = .UNUSED ∨ c.state = .UNKNOWN ∨ c.state = .WINCH_FAULT) :
    s.winchNode i up = s.setCoupling i c := by
  rw [State.winchNode, ← hc]
  cases up with
  | true => rfl
  | false => exact (if_neg Bool.false_ne_true).trans (loseSight_unwatched (h.resolve_left (by rw [hc]; exact Bool.false_ne_true)))

theorem winchNode_down {i : Fin 24} {c : Coupling} {up : Bool} (hc : c = { s.couplings[i] with nodeAvailable := up })
    (hn : c.nodeAvailable = false) (h1 : c.state ≠ .UNUSED) (h2 : c.state ≠ .UNKNOWN) (h3 : c.state ≠ .WINCH_FAULT) :
    s.winchNode i up = s.enterCoupling i { c with freshness := none } .UNKNOWN := by
  have hup : up = false := by rw [← hn, hc]
  rw [State.winchNode, ← hc, hup, if_neg Bool.false_ne_true, loseSight_watched h1 h2 h3]

theorem exec_freshness {i : Fin 24} {d : Nat} (h : s.inReset = false) (hd : s.couplings[i].freshness = some d) :
    exec (.freshnessDeadlineExpiry i) s = .next
      ((s.reach d).loseSight i s.couplings[i] { s.couplings[i] with freshness := none }) := by
  rw [exec, execFreshnessDeadlineExpiry, live_awake h, hd, onExpiry_some]
  rfl

theorem stateExpiry_some {k : StateDeadlineKind} {i : Fin 24} {f : Coupling → CouplingState} {d : Nat}
    (hd : s.couplings[i].deadline = some ⟨k, d⟩) :
    stateExpiry k i f s = (s.reach d).enterCoupling i s.couplings[i] (f s.couplings[i]) := by
  rw [stateExpiry, (deadlineOf_eq_some _ k d).mpr hd, onExpiry_some]
  rfl

theorem stateExpiry_none {k : StateDeadlineKind} {i : Fin 24} {f : Coupling → CouplingState}
    (hd : ∀ d, s.couplings[i].deadline ≠ some ⟨k, d⟩) : stateExpiry k i f s = s := by
  have hnone : s.couplings[i].deadlineOf k = none :=
    Option.eq_none_iff_forall_ne_some.mpr fun d h => hd d ((deadlineOf_eq_some _ k d).mp h)
  rw [stateExpiry, hnone, onExpiry_none]

/-- Settles O37: a coupling that is watched falls to UNKNOWN, and each state deadline leads to its state. -/
theorem couplingLosses : Obligations.CouplingLosses := by
  refine ⟨fun i st s t c h hu ht hc => ⟨fun hst => ?_, fun hn h1 h2 h3 => ?_⟩, fun i r st s h hu =>
    ⟨taken_idle h (if_neg (ne_true_of hu)), taken_idle h (if_neg (ne_true_of hu))⟩,
    fun i d s t c h ht hc => ⟨fun hd hst => ?_, fun hd h1 h2 h3 => ?_, fun hd => ?_, fun hd => ?_, fun hd => ?_⟩,
    fun i s => ⟨exec_absent (d := fun s => s.couplings[i].freshness), fun hd => ?_, fun hd => ?_, fun hd => ?_⟩⟩
  · have hcouplings : t.couplings = s.couplings := by rw [ht]; rfl
    rw [exec_winchNode i st h hu, ← ht, winchNode_up (by rw [hcouplings]; exact hc) hst, State.setCoupling, hcouplings]
  · have hcouplings : t.couplings = s.couplings := by rw [ht]; rfl
    rw [exec_winchNode i st h hu, ← ht, winchNode_down (by rw [hcouplings]; exact hc) hn h1 h2 h3]
  · subst hc ht
    rw [exec_freshness h hd, loseSight_unwatched hst]
    rfl
  · subst hc ht
    rw [exec_freshness h hd, loseSight_watched h1 h2 h3]
    rfl
  · rw [exec, execHeaveDeadlineExpiry, live_awake h, stateExpiry_some (hc ▸ hd), ht, hc]
    rfl
  · rw [exec, execReleaseDeadlineExpiry, live_awake h, stateExpiry_some (hc ▸ hd), ht, hc]
    rfl
  · rw [exec, execSlackDwellExpiry, live_awake h, stateExpiry_some (hc ▸ hd), ht, hc]
    rfl
  · rw [exec, execHeaveDeadlineExpiry, live_eq, stateExpiry_none hd, ite_self]
  · rw [exec, execReleaseDeadlineExpiry, live_eq, stateExpiry_none hd, ite_self]
  · rw [exec, execSlackDwellExpiry, live_eq, stateExpiry_none hd, ite_self]

end Sys2Proof.Machine
end


section
/-! SUPPORT. The meter unit: reports (O38) and estimation (O39). -/

namespace Sys2Proof.Machine

open Sys2Proof

variable {s : State}

/-! ## A channel of a report (R108 to R111) -/

theorem satAdd_satAdd (top a b c : Nat) : satAdd top (satAdd top a b) c = min top (a + b + c) := by
  unfold satAdd
  omega

theorem count_first {c : MeterChannel} (r : ChannelReport) (w alpha limit : Nat) (h : c.baseline = none) :
    c.count w alpha limit r = { delta := none, q := 0, excess := 0, channel := { c with
      baseline := some r.count, tempInvalid := r.temp.isNone, last := some r } } := by
  simp only [MeterChannel.count, h, MeterChannel.settle]

theorem count_next {c : MeterChannel} {r : ChannelReport} {b d total : Nat} (w alpha limit : Nat) (h : c.baseline = some b)
    (hd : d = (r.count + 65536 - b) % 65536) (ht : total = min d limit * w * factor alpha r.temp + c.residue) :
    c.count w alpha limit r = { delta := some d, q := total / 1000000, excess := d - limit, channel := { c with
      baseline := some r.count, residue := total % 1000000, tempInvalid := r.temp.isNone, last := some r } } := by
  subst hd ht
  simp only [MeterChannel.count, h, MeterChannel.settle]

theorem factor_none (alpha : Nat) : factor alpha none = 1000000 := by simp [factor]

theorem factor_some (alpha : Nat) (t : Int) (h : alpha ≤ 2000) :
    (factor alpha (some t) : Int) = 1000000 - ((alpha : Int) * (max (-200) (min 900 t) - 150)).tdiv 10 := by
  have hle : (alpha : Int) * (max (-200) (min 900 t) - 150) ≤ 2000 * 750 := by
    have hfac : max (-200) (min 900 t) - 150 ≤ 750 := by omega
    calc (alpha : Int) * (max (-200) (min 900 t) - 150) ≤ (alpha : Int) * 750 :=
          Int.mul_le_mul_of_nonneg_left hfac (Int.natCast_nonneg alpha)
      _ ≤ 2000 * 750 := by omega
  have hdiv : ((alpha : Int) * (max (-200) (min 900 t) - 150)).tdiv 10 ≤ 1000000 := by
    generalize (alpha : Int) * (max (-200) (min 900 t) - 150) = z at hle
    calc z.tdiv 10 ≤ (2000 * 750 : Int).tdiv 10 := Int.tdiv_le_tdiv (by decide) hle
      _ ≤ 1000000 := by decide
  exact Int.toNat_of_nonneg (by simpa [clampInt] using hdiv)

/-! ## Reports (R107, R112, R113, R118) -/

theorem beyondLimit_iff (x : Counted) : x.beyondLimit = true ↔ 0 < x.excess := by simp [Counted.beyondLimit]

theorem postIf_eq (c : Prop) [Decidable c] (k : EventKind) (b : Bool) (t : State) (h : b = true ↔ c) :
    t.postIf b k = if c then t.post k else t := by
  simp only [State.postIf, h]

/-- R109: what the counts of both channels leave in the entry. -/
theorem countExcess_both (m : Meter) (x y : Counted) : (m.countExcess x).countExcess y = { m with
    excess := min 4294967295 (m.excess + x.excess + y.excess)
    implausible := if 0 < x.excess ∧ 0 < y.excess then min 65535 (m.implausible + 2)
      else if 0 < x.excess ∨ 0 < y.excess then min 65535 (m.implausible + 1) else m.implausible } := by
  have himp : (if 0 < y.excess then bump16 (if 0 < x.excess then bump16 m.implausible else m.implausible)
      else if 0 < x.excess then bump16 m.implausible else m.implausible) =
      if 0 < x.excess ∧ 0 < y.excess then min 65535 (m.implausible + 2)
      else if 0 < x.excess ∨ 0 < y.excess then min 65535 (m.implausible + 1) else m.implausible := by
    unfold bump16 satAdd
    split_ifs <;> omega
  simp only [Meter.countExcess, beyondLimit_iff, satAdd_satAdd, himp, max32]

theorem countExcess_one (m : Meter) (x : Counted) : m.countExcess x = { m with
    excess := min 4294967295 (m.excess + x.excess)
    implausible := if 0 < x.excess then min 65535 (m.implausible + 1) else m.implausible } := by
  simp only [Meter.countExcess, beyondLimit_iff, satAdd, bump16, max32]

theorem exec_meterReport (i : Fin 16) (r : MeterReport) (h : Running s) (hu : s.meters[i].used = true) :
    exec (.meterReportTaken i r) s = .next ((s.takeHandover (.meterReportTaken i r)).meterReport i r) := by
  rw [exec, execMeterReportTaken, taken_running h, if_pos (by exact hu)]

theorem meterReport_estimating {i : Fin 16} {m : Meter} (r : MeterReport) (hm : m = s.meters[i]) (he : m.estimating = true) :
    s.meterReport i r = s.setMeter i (m.endEstimation r) := by
  subst hm
  exact if_pos he

theorem meterReport_engine {i : Fin 16} {m : Meter} (r : MeterReport) (hm : m = s.meters[i]) (he : m.estimating = false)
    (hk : m.cfg.kind = .ENGINE) : s.meterReport i r = s.engineMeterReport i r := by
  subst hm
  simp only [State.meterReport, hk]
  exact if_neg (ne_true_of he)

theorem meterReport_flow {i : Fin 16} {m : Meter} (r : MeterReport) (hm : m = s.meters[i]) (he : m.estimating = false)
    (hk : m.cfg.kind ≠ .ENGINE) : s.meterReport i r = s.flowMeterReport i r := by
  subst hm
  rw [State.meterReport]
  cases hkind : s.meters[i].cfg.kind with
  | ENGINE => exact absurd hkind hk
  | TRANSFER => exact if_neg (ne_true_of he)
  | RECEIPT => exact if_neg (ne_true_of he)

/-- R107: a report that the estimation does not end leaves the entry `m'` and, where it was implausible, an event. -/
def State.reported (i : Fin 16) (m' : Meter) (beyond : Bool) (s : State) : State :=
  (s.setMeter i m').postIf beyond .METER_IMPLAUSIBLE

theorem reported_engines (i : Fin 16) (m' : Meter) (b : Bool) : (s.reported i m' b).engines = s.engines := by
  cases b <;> rfl

theorem reported_channels (i : Fin 16) (m' : Meter) (b : Bool) : (s.reported i m' b).channels = s.channels := by
  cases b <;> rfl

/-- R109: what an engine meter's report leaves, in terms of its counts. -/
theorem reported_engine {i : Fin 16} {m : Meter} {x y : Counted} {u v : State}
    (hu : u = { s with meters := s.meters.set i { m with
        ch1 := x.channel
        ch2 := y.channel
        excess := min 4294967295 (m.excess + x.excess + y.excess)
        implausible := if 0 < x.excess ∧ 0 < y.excess then min 65535 (m.implausible + 2)
          else if 0 < x.excess ∨ 0 < y.excess then min 65535 (m.implausible + 1) else m.implausible } })
    (hv : v = if 0 < x.excess ∨ 0 < y.excess then u.post .METER_IMPLAUSIBLE else u) :
    s.reported i (({ m with ch1 := x.channel, ch2 := y.channel }.countExcess x).countExcess y)
      (x.beyondLimit || y.beyondLimit) = v := by
  rw [State.reported, postIf_eq (0 < x.excess ∨ 0 < y.excess) _ _ _
    (by rw [Bool.or_eq_true, beyondLimit_iff, beyondLimit_iff]), countExcess_both, hv, hu]
  rfl

/-- R109: what another meter's report leaves, in terms of the count of its channel 1. -/
theorem reported_flow {i : Fin 16} {r : MeterReport} {m : Meter} {x : Counted} {u v : State}
    (hu : u = { s with meters := s.meters.set i { m with
        ch1 := x.channel
        ch2 := { m.ch2 with baseline := some r.ch2.count, last := some r.ch2 }
        excess := min 4294967295 (m.excess + x.excess)
        implausible := if 0 < x.excess then min 65535 (m.implausible + 1) else m.implausible } })
    (hv : v = if 0 < x.excess then u.post .METER_IMPLAUSIBLE else u) :
    s.reported i ({ m with
      ch1 := x.channel
      ch2 := { m.ch2 with baseline := some r.ch2.count, last := some r.ch2 } }.countExcess x) x.beyondLimit = v := by
  rw [State.reported, postIf_eq (0 < x.excess) _ _ _ (beyondLimit_iff x), countExcess_one, hv, hu]
  rfl

theorem engineMeterReport_linked {i : Fin 16} {r : MeterReport} {m : Meter} {x y : Counted} {e : Fin 8}
    (hm : m = s.meters[i]) (hx : x = m.ch1.count m.cfg.weight1 m.cfg.alpha m.cfg.limit r.ch1)
    (hy : y = m.ch2.count m.cfg.weight2 m.cfg.alpha m.cfg.limit r.ch2) (he : m.cfg.engine = some e)
    (hd : x.delta ≠ none ∨ y.delta ≠ none) :
    s.engineMeterReport i r = (s.reported i (({ m with ch1 := x.channel, ch2 := y.channel }.countExcess x).countExcess y)
      (x.beyondLimit || y.beyondLimit)).bookMetered e ((x.q : Int) - y.q) := by
  subst hm hx hy
  simp only [State.engineMeterReport, he]
  exact if_pos (by simpa only [Bool.or_eq_true, Option.isSome_iff_ne_none] using hd)

theorem engineMeterReport_unlinked {i : Fin 16} {r : MeterReport} {m : Meter} {x y : Counted}
    (hm : m = s.meters[i]) (hx : x = m.ch1.count m.cfg.weight1 m.cfg.alpha m.cfg.limit r.ch1)
    (hy : y = m.ch2.count m.cfg.weight2 m.cfg.alpha m.cfg.limit r.ch2)
    (hd : m.cfg.engine = none ∨ (x.delta = none ∧ y.delta = none)) :
    s.engineMeterReport i r = s.reported i (({ m with ch1 := x.channel, ch2 := y.channel }.countExcess x).countExcess y)
      (x.beyondLimit || y.beyondLimit) := by
  subst hm hx hy
  cases he : s.meters[i].cfg.engine with
  | none =>
    simp only [State.engineMeterReport, he]
    rfl
  | some e =>
    obtain ⟨hx, hy⟩ := hd.resolve_left (by rw [he]; exact Option.some_ne_none e)
    simp only [State.engineMeterReport, he]
    exact if_neg (by rw [hx, hy]; exact Bool.false_ne_true)

/-- The channel a claim finds is the first for which it holds. -/
theorem channelWhere_some {f : Channel → Bool} {c : Fin 2} (hc : f s.channels[c] = true)
    (hfirst : ∀ d : Fin 2, d < c → f s.channels[d] = false) : s.channelWhere f = some c := by
  rw [State.channelWhere, ← Fin.find?_eq_find?_finRange, Fin.find?_eq_some_iff]
  exact ⟨hc, hfirst⟩

theorem channelWhere_none {f : Channel → Bool} (h : ∀ c : Fin 2, f s.channels[c] = false) : s.channelWhere f = none :=
  List.find?_eq_none.mpr fun c _ => ne_true_of (h c)

section
variable {i : Fin 16} {r : MeterReport} {m : Meter} {x : Counted} {v : State}

theorem flowMeterReport_claimed {c : Fin 2} {n : Nat} (hm : m = s.meters[i])
    (hx : x = m.ch1.count m.cfg.weight1 m.cfg.alpha m.cfg.limit r.ch1)
    (hv : s.reported i ({ m with
      ch1 := x.channel
      ch2 := { m.ch2 with baseline := some r.ch2.count, last := some r.ch2 } }.countExcess x) x.beyondLimit = v)
    (hc : v.channelWhere (fun c => c.claimsMeter i) = some c) (hd : x.delta = some n) :
    s.flowMeterReport i r = v.bookMovement c x.q (decide (n = 0)) := by
  subst hm hx hv
  simp only [State.reported] at hc
  simp only [State.flowMeterReport, hc, hd, State.reported]

theorem flowMeterReport_first {c : Fin 2} (hm : m = s.meters[i])
    (hx : x = m.ch1.count m.cfg.weight1 m.cfg.alpha m.cfg.limit r.ch1)
    (hv : s.reported i ({ m with
      ch1 := x.channel
      ch2 := { m.ch2 with baseline := some r.ch2.count, last := some r.ch2 } }.countExcess x) x.beyondLimit = v)
    (hc : v.channelWhere (fun c => c.claimsMeter i) = some c) (hd : x.delta = none) :
    s.flowMeterReport i r = v := by
  subst hm hx hv
  simp only [State.reported] at hc
  simp only [State.flowMeterReport, hc, hd, State.reported]

theorem flowMeterReport_stray (hm : m = s.meters[i])
    (hx : x = m.ch1.count m.cfg.weight1 m.cfg.alpha m.cfg.limit r.ch1)
    (hv : s.reported i ({ m with
      ch1 := x.channel
      ch2 := { m.ch2 with baseline := some r.ch2.count, last := some r.ch2 } }.countExcess x) x.beyondLimit = v)
    (hc : v.channelWhere (fun c => c.claimsMeter i) = none) :
    s.flowMeterReport i r = v.strayFlow i x.q := by
  subst hm hx hv
  simp only [State.reported] at hc
  simp only [State.flowMeterReport, hc, State.reported]

end

/-- Settles O38: a report is one of four: of an unused entry, one that ends an estimation, of an engine meter, or of
another meter. -/
theorem meterReportsTaken : Obligations.MeterReportsTaken := by
  unfold Obligations.MeterReportsTaken
  refine ⟨?_, fun c r w alpha limit h => count_first r w alpha limit h, ?_, fun alpha => ⟨factor_none alpha, factor_some alpha⟩⟩
  · intro i r s t m h ht hm
    refine ⟨fun hu => ?_, fun hu he => ?_, fun x y u v hu he hk hx hy hu' hv => ?_, fun x u v hu he hk hx hu' hv => ?_⟩
    · rw [exec, execMeterReportTaken, taken_running h, if_neg (ne_true_of (by rw [← hu, hm]; rfl)), ht]
    · rw [exec_meterReport i r h (hm ▸ hu), ← ht, meterReport_estimating r (by rw [hm, ht]; rfl) he, ht]
      rfl
    · have hmt : m = t.meters[i] := by rw [hm, ht]; rfl
      have hmeters : t.meters = s.meters := by rw [ht]; rfl
      rw [← hmeters] at hu'
      have hrep := reported_engine hu' hv
      have heng : v.engines = s.engines := by
        rw [← hrep, reported_engines, ht]
        rfl
      rw [exec_meterReport i r h (hm ▸ hu), ← ht, meterReport_engine r hmt he hk]
      refine ⟨fun e hlink hd => ?_, fun hd => ?_⟩
      · rw [engineMeterReport_linked hmt hx hy hlink hd, hrep, State.bookMetered, heng]
        rfl
      · rw [engineMeterReport_unlinked hmt hx hy hd, hrep]
    · have hmt : m = t.meters[i] := by rw [hm, ht]; rfl
      have hmeters : t.meters = s.meters := by rw [ht]; rfl
      rw [← hmeters] at hu'
      have hrep := reported_flow hu' hv
      have hch : v.channels = s.channels := by
        rw [← hrep, reported_channels, ht]
        rfl
      rw [exec_meterReport i r h (hm ▸ hu), ← ht, meterReport_flow r hmt he hk]
      refine ⟨fun c hc hfirst => ?_, fun hnone => ?_⟩
      · have hclaim : v.channelWhere (fun c => c.claimsMeter i) = some c :=
          channelWhere_some (by rw [hch]; exact hc) (by rw [hch]; exact hfirst)
        exact ⟨fun n hd => by rw [flowMeterReport_claimed hmt hx hrep hclaim hd],
          fun hd => by rw [flowMeterReport_first hmt hx hrep hclaim hd]⟩
      · rw [flowMeterReport_stray hmt hx hrep (channelWhere_none (by rw [hch]; exact hnone))]
        rfl
  · intro c r w alpha limit b d total hb hb' hr hd htotal
    exact count_next w alpha limit hb (by omega) htotal

/-! ## Node states and estimation (R114 to R117) -/

theorem exec_meterNode (i : Fin 16) (st : NodeState) (h : Running s) (hu : s.meters[i].used = true) :
    exec (.meterNodeStateTaken i st) s = .next ((s.takeHandover (.meterNodeStateTaken i st)).meterNode i st) := by
  rw [exec, execMeterNodeStateTaken, taken_running h, if_pos (by exact hu)]

theorem setMeter_setMeter (i : Fin 16) (m n : Meter) : (s.setMeter i m).setMeter i n = s.setMeter i n := by
  simp only [State.setMeter, Vector.set_set]

theorem getMeter_setMeter (i : Fin 16) (m : Meter) : (s.setMeter i m).meters[i] = m := by
  simp only [State.setMeter, Fin.getElem_fin, Vector.getElem_set_self]

/-- R114: the node is there, or the entry was never heard. -/
theorem meterNode_kept {i : Fin 16} {st : NodeState} {m : Meter} (hm : m = s.meters[i])
    (h : available st = true ∨ m.heard = false) :
    s.meterNode i st = s.setMeter i { m with
      nodeAvailable := available st
      heard := m.heard || decide (st = .ONLINE) } := by
  subst hm
  exact if_neg (by rcases h with h | h <;> simp only [h, Bool.not_true, Bool.and_false, Bool.false_and,
    Bool.false_eq_true, not_false_eq_true])

/-- R114, R115: a heard entry is lost: it drops its baselines, and an engine meter begins to estimate. -/
theorem meterNode_lost {i : Fin 16} {st : NodeState} {m n : Meter} (hm : m = s.meters[i]) (hs : available st = false)
    (hh : m.heard = true) (hn : n = { m with
      nodeAvailable := false
      ch1 := { m.ch1 with baseline := none }
      ch2 := { m.ch2 with baseline := none } }) :
    s.meterNode i st = if m.cfg.kind = .ENGINE ∧ m.estimating = false
      then (s.setMeter i { n with estimating := true, heldRack := s.rackToHold m.cfg.engine, rackHold := 60 }).post .ESTIMATING
      else s.setMeter i n := by
  have hst : st ≠ .ONLINE := by
    rintro rfl
    exact Bool.noConfusion hs
  subst hm
  rw [State.meterNode]
  simp only [hs, hh, Bool.not_false, Bool.and_true, Bool.true_or, if_true]
  rw [State.meterLost, getMeter_setMeter, setMeter_setMeter, setMeter_setMeter, hn]
  simp only [Meter.dropBaselines, Meter.beginEstimation, hh]
  rfl

/-- R115: the rack to hold is that of a turning engine. -/
theorem rackToHold_eq {engine : Option (Fin 8)} {rack : Nat}
    (h : (∃ (e : Fin 8) (r : EngineReport), engine = some e ∧ s.engines[e].lastReport = some r ∧ 0 < r.rpm ∧ rack = r.rack)
      ∨ rack = 0 ∧ ∀ (e : Fin 8) (r : EngineReport), engine = some e → s.engines[e].lastReport = some r → r.rpm = 0) :
    s.rackToHold engine = rack := by
  rcases h with ⟨e, r, rfl, hr, hrpm, rfl⟩ | ⟨rfl, hstill⟩
  · simp only [State.rackToHold, hr]
    exact if_pos hrpm
  · cases engine with
    | none => rfl
    | some e =>
      cases hr : s.engines[e].lastReport with
      | none => simp only [State.rackToHold, hr]
      | some r =>
        simp only [State.rackToHold, hr]
        exact if_neg (by rw [hstill e r rfl hr]; decide)

theorem estimateSecond_turning {i : Fin 16} {e : Fin 8} {r : EngineReport} (ha : s.engines[e].nodeAvailable = true)
    (hr : s.engines[e].lastReport = some r) (hrpm : 0 < r.rpm) : s.estimateSecond i e = s.estimateAt i e r.rack 60 := by
  simp only [State.estimateSecond, ha, hr, if_true]
  exact if_pos hrpm

theorem estimateSecond_still {i : Fin 16} {e : Fin 8} (ha : s.engines[e].nodeAvailable = true)
    (h : ∀ r, s.engines[e].lastReport = some r → r.rpm = 0) :
    s.estimateSecond i e = s.setMeter i { s.meters[i] with heldRack := 0, rackHold := 60 } := by
  cases hr : s.engines[e].lastReport with
  | none => simp only [State.estimateSecond, ha, hr, if_true]
  | some r =>
    simp only [State.estimateSecond, ha, hr, if_true]
    exact if_neg (by rw [h r hr]; decide)

theorem estimateSecond_held {i : Fin 16} {e : Fin 8} (ha : s.engines[e].nodeAvailable = false)
    (hold : 0 < s.meters[i].rackHold) :
    s.estimateSecond i e = s.estimateAt i e s.meters[i].heldRack (s.meters[i].rackHold - 1) := by
  rw [State.estimateSecond, if_neg (ne_true_of ha)]
  exact if_pos hold

theorem estimateSecond_unaccounted {i : Fin 16} {e : Fin 8} (ha : s.engines[e].nodeAvailable = false)
    (hold : s.meters[i].rackHold = 0) : s.estimateSecond i e = s.unaccounted e := by
  rw [State.estimateSecond, if_neg (ne_true_of ha)]
  exact if_neg (by rw [hold]; decide)

theorem estimateAt_eq {i : Fin 16} {e : Fin 8} {rack hold total : Nat}
    (ht : total = s.engines[e].cfg.ratedRate * rack + s.meters[i].estResidue) :
    s.estimateAt i e rack hold = State.bookTank .consumed (total / 3600 : Nat) s.engines[e].cfg.feedTank { s with
      meters := s.meters.set i { s.meters[i] with estResidue := total % 3600, heldRack := rack, rackHold := hold }
      totals := s.totals.set e { s.totals[e] with
        estimated := min 281474976710655 (s.totals[e].estimated + total / 3600) } } := by
  subst ht
  rfl

/-- Settles O39: the changes of a meter's node by the state and whether it was heard, and an estimated second by the
engine's node and the hold that is left. -/
theorem estimation : Obligations.Estimation := by
  unfold Obligations.Estimation
  refine ⟨?_, fun d s h hd => ?_, fun s hd => ?_, ?_⟩
  · intro i st s t m n h ht hm
    have hmt : m = t.meters[i] := by rw [hm, ht]; rfl
    have hmeters : t.meters = s.meters := by rw [ht]; rfl
    have heng : t.engines = s.engines := by rw [ht]; rfl
    have hgone : st = .UNHEARD ∨ st = .OFFLINE → available st = false := by
      rintro (rfl | rfl) <;> rfl
    refine ⟨fun hu => ?_, fun hu hst => ?_, fun hu hst hh => ?_, fun hu hst hh hn => ⟨fun hk => ?_, fun rack hk he hr => ?_⟩⟩
    · rw [exec, execMeterNodeStateTaken, taken_running h, if_neg (ne_true_of (by rw [← hu, hm]; rfl)), ht]
    · have hav : available st = true := by rcases hst with rfl | rfl <;> rfl
      rw [exec_meterNode i st h (hm ▸ hu), ← ht, meterNode_kept hmt (.inl hav), hav, State.setMeter, hmeters]
    · have hon : decide (st = .ONLINE) = false := by rcases hst with rfl | rfl <;> rfl
      rw [exec_meterNode i st h (hm ▸ hu), ← ht, meterNode_kept hmt (.inr hh), hgone hst, hon, Bool.or_false,
        State.setMeter, hmeters]
    · rw [exec_meterNode i st h (hm ▸ hu), ← ht, meterNode_lost hmt (hgone hst) hh hn, if_neg, State.setMeter, hmeters]
      rintro ⟨hkind, hest⟩
      exact hk.elim (fun hk => hk hkind) (fun hk => ne_true_of hest hk)
    · rw [exec_meterNode i st h (hm ▸ hu), ← ht, meterNode_lost hmt (hgone hst) hh hn, if_pos ⟨hk, he⟩,
        rackToHold_eq (by rw [heng]; exact hr), State.setMeter, hmeters]
  · rw [exec, execEstimationTimerExpiry, live_awake h, hd, onExpiry_some]
    rfl
  · exact exec_absent (d := fun s => s.estimationTimer) hd
  · intro s i e m hm
    subst hm
    refine ⟨fun r total ha hr hrpm ht => ?_, estimateSecond_still, fun total ha hold ht => ?_, fun ha hold => ?_⟩
    · rw [estimateSecond_turning ha hr hrpm, estimateAt_eq ht]
    · rw [estimateSecond_held ha hold, estimateAt_eq ht]
    · rw [estimateSecond_unaccounted ha hold]
      rfl

end Sys2Proof.Machine
end


section
/-! SUPPORT. The fuel account: bookings (O40) and the derived state of a tank (O41). -/

namespace Sys2Proof.Machine

open Sys2Proof

variable {s : State}

/-! ## Bookings (R123, R124) -/

theorem bookFields_used {b : Booking} {v : Int} {i : Fin 8} (h : s.tanks[i].used = true) :
    s.bookFields b v i = s.setTank i { s.tanks[i] with account := s.tanks[i].account.book' b v } := if_pos h

theorem getTank_setTank_ne {i j : Fin 8} (t : Tank) (h : i ≠ j) : (s.setTank i t).tanks[j] = s.tanks[j] :=
  Vector.getElem_set_ne i.isLt j.isLt fun hval => h (Fin.ext hval)

/-- Settles O40. -/
theorem bookings : Obligations.Bookings := by
  unfold Obligations.Bookings
  refine ⟨fun b v i s h => ?_, fun v a b s hne ha hb => ?_, fun a v book total hbook htotal => ?_⟩
  · rw [State.bookTank, bookFields_used h]
    rfl
  · have hb' := getTank_setTank_ne (s := s) { s.tanks[a] with account := s.tanks[a].account.book' .transferOut v } hne
    simp only [State.bookTransfer, bookFields_used ha, bookFields_used (hb' ▸ hb), hb']
    rfl
  · subst hbook htotal
    exact ⟨rfl, rfl, rfl, rfl⟩

/-! ## The derivation (R126, R127) -/

/-- R127: a step crosses one boundary, and the two conditions at a boundary exclude one another. -/
theorem stepUp_after_down {g : TankCfg} {v : Int} {st st' : TankState} (h : stepDown g v st = some st') :
    stepUp g v st' = none := by
  cases st <;> simp only [stepDown, Option.ite_none_right_eq_some, Option.some.injEq, reduceCtorEq] at h <;>
    obtain ⟨hlevel, rfl⟩ := h <;> simp only [stepUp, litres] at hlevel ⊢ <;> exact if_neg (by omega)

theorem stepDown_after_up {g : TankCfg} {v : Int} {st st' : TankState} (h : stepUp g v st = some st') :
    stepDown g v st' = none := by
  cases st <;> simp only [stepUp, Option.ite_none_right_eq_some, Option.some.injEq, reduceCtorEq] at h <;>
    obtain ⟨hlevel, rfl⟩ := h <;> simp only [stepDown, litres] at hlevel ⊢ <;> exact if_neg (by omega)

theorem stepDown_lowers {g : TankCfg} {v : Int} {st st' : TankState} (h : stepDown g v st = some st') :
    st'.ctorIdx + 1 = st.ctorIdx := by
  cases st <;> simp only [stepDown, Option.ite_none_right_eq_some, Option.some.injEq, reduceCtorEq] at h <;>
    obtain ⟨_, rfl⟩ := h <;> decide

theorem stepUp_raises {g : TankCfg} {v : Int} {st st' : TankState} (h : stepUp g v st = some st') :
    st.ctorIdx + 1 = st'.ctorIdx := by
  cases st <;> simp only [stepUp, Option.ite_none_right_eq_some, Option.some.injEq, reduceCtorEq] at h <;>
    obtain ⟨_, rfl⟩ := h <;> decide

theorem stepState_down {g : TankCfg} {v : Int} {st st' : TankState} (h : stepDown g v st = some st') :
    stepState g v st = some st' := by simp only [stepState, h]

theorem stepState_up {g : TankCfg} {v : Int} {st : TankState} (h : stepDown g v st = none) :
    stepState g v st = stepUp g v st := by simp only [stepState, h]

theorem deriveFrom_settled {g : TankCfg} {v : Int} {st : TankState} (n : Nat) (h : stepState g v st = none) :
    deriveFrom g v n st = st := by
  cases n with
  | zero => rfl
  | succ n => simp only [deriveFrom, h]

theorem deriveFrom_step {g : TankCfg} {v : Int} {st st' : TankState} (n : Nat) (h : stepState g v st = some st') :
    deriveFrom g v (n + 1) st = deriveFrom g v n st' := by simp only [deriveFrom, h]

/-- A derivation that goes down settles within as many tests as there are boundaries below. -/
theorem deriveFrom_falls {g : TankCfg} {v : Int} (n : Nat) (st : TankState) (hup : stepUp g v st = none)
    (hn : st.ctorIdx ≤ n) : stepState g v (deriveFrom g v n st) = none := by
  induction n generalizing st with
  | zero =>
    have hst : st = .EMPTY := by cases st <;> first | rfl | exact absurd hn (by decide)
    subst hst
    exact (stepState_up rfl).trans hup
  | succ n ih =>
    cases hdown : stepDown g v st with
    | none =>
      have hsettled := (stepState_up hdown).trans hup
      rwa [deriveFrom_settled _ hsettled]
    | some st' =>
      rw [deriveFrom_step n (stepState_down hdown)]
      exact ih st' (stepUp_after_down hdown) (by have := stepDown_lowers hdown; omega)

/-- A derivation that goes up settles within as many tests as there are boundaries above. -/
theorem deriveFrom_rises {g : TankCfg} {v : Int} (n : Nat) (st : TankState) (hdown : stepDown g v st = none)
    (hn : 4 ≤ st.ctorIdx + n) : stepState g v (deriveFrom g v n st) = none := by
  induction n generalizing st with
  | zero =>
    have hst : st = .HIGH := by cases st <;> first | rfl | exact absurd hn (by decide)
    subst hst
    exact stepState_up hdown
  | succ n ih =>
    cases hup : stepUp g v st with
    | none =>
      have hsettled := (stepState_up hdown).trans hup
      rwa [deriveFrom_settled _ hsettled]
    | some st' =>
      rw [deriveFrom_step n ((stepState_up hdown).trans hup)]
      exact ih st' (stepDown_after_up hup) (by have := stepUp_raises hup; omega)

theorem deriveFrom_succ {g : TankCfg} {v : Int} (n : Nat) (st : TankState)
    (h : stepState g v (deriveFrom g v n st) = none) : deriveFrom g v (n + 1) st = deriveFrom g v n st := by
  induction n generalizing st with
  | zero => exact deriveFrom_settled 1 h
  | succ n ih =>
    cases hst : stepState g v st with
    | none => rw [deriveFrom_settled _ hst, deriveFrom_settled _ hst]
    | some st' =>
      rw [deriveFrom_step n hst] at h
      rw [deriveFrom_step (n + 1) hst, deriveFrom_step n hst, ih st' h]

/-- R127: after its first step a derivation goes one way, so four tests more settle it. -/
theorem deriveFrom_after_step {g : TankCfg} {v : Int} {st st' : TankState} (h : stepState g v st = some st') :
    stepState g v (deriveFrom g v 4 st') = none := by
  cases hdown : stepDown g v st with
  | none =>
    have hup := (stepState_up hdown).symm.trans h
    exact deriveFrom_rises 4 st' (stepDown_after_up hup) (by omega)
  | some down =>
    have hst : down = st' := Option.some.inj ((stepState_down hdown).symm.trans h)
    subst hst
    have hle : down.ctorIdx ≤ 4 := by cases down <;> decide
    exact deriveFrom_falls 4 down (stepUp_after_down hdown) hle

theorem deriveTankState_step {g : TankCfg} {v : Int} {st st' : TankState} (h : stepState g v st = some st') :
    deriveTankState g v st = deriveTankState g v st' := by
  rw [deriveTankState, deriveTankState, deriveFrom_step 4 h, deriveFrom_succ 4 st' (deriveFrom_after_step h)]

theorem deriveTankState_settles (g : TankCfg) (v : Int) (st : TankState) :
    stepState g v (deriveTankState g v st) = none := by
  cases h : stepState g v st with
  | none => rwa [deriveTankState, deriveFrom_settled 5 h]
  | some st' => rw [deriveTankState, deriveFrom_step 4 h, deriveFrom_after_step h]

/-! ## What a state hands on (R51, R58, R146) -/

theorem feedLevelOf_eq (st : TankState) :
    feedLevelOf (some st) = if st = .EMPTY then .EMPTY else if st = .RESERVE then .RESERVE else .FED := by
  cases st <;> rfl

theorem deriveTank_same {i : Fin 8} {st : TankState}
    (hst : st = deriveTankState s.tanks[i].cfg s.tanks[i].levelUsed (s.tanks[i].state.getD .NORMAL))
    (h : s.tanks[i].used = false ∨ s.running = false ∨ s.tanks[i].state = some st) : s.deriveTank i = s := by
  subst hst
  cases hon : s.tanks[i].used && s.running with
  | false => exact if_neg (ne_true_of hon)
  | true =>
    obtain ⟨hu, hr⟩ := Bool.and_eq_true_iff.mp hon
    have hsame := (h.resolve_left (ne_false_of hu)).resolve_left (ne_false_of hr)
    exact (if_pos hon).trans (if_pos hsame)

theorem deriveTank_changed {i : Fin 8} {st : TankState}
    (hst : st = deriveTankState s.tanks[i].cfg s.tanks[i].levelUsed (s.tanks[i].state.getD .NORMAL))
    (hu : s.tanks[i].used = true) (hr : s.running = true) (hne : s.tanks[i].state ≠ some st) :
    s.deriveTank i = ((State.post .TANK_CHANGED (s.setTank i { s.tanks[i] with state := some st })).feedChanged i
      (feedLevelOf (some st))).movementTankState i st := by
  subst hst
  exact (if_pos (Bool.and_eq_true_iff.mpr ⟨hu, hr⟩)).trans (if_neg hne)

/-- R146: what one channel makes of a tank's new state. -/
def Channel.afterTankState (t : Fin 8) (st : TankState) (second deadline : Nat) (c : Channel) : Channel :=
  if c.state = .RUNNING ∧ c.kind = some .TRANSFER ∧ c.source = some t ∧ (st = .RESERVE ∨ st = .EMPTY) then { c with
    state := .SETTLING, stopReason := some .SOURCE_RESERVE, stopSecond := some second
    settling := some deadline, zeroReports := 0 }
  else if c.state = .RUNNING ∧ c.destination = some t ∧ st = .HIGH then { c with
    state := .SETTLING, stopReason := some .DESTINATION_HIGH, stopSecond := some second
    settling := some deadline, zeroReports := 0 }
  else c

theorem setChannel_self (i : Fin 2) : s.setChannel i s.channels[i] = s := by
  simp only [State.setChannel, Fin.getElem_fin, Vector.set_getElem_self]

theorem stopChannel_running {i : Fin 2} {reason : StopReason} (h : s.channels[i].state = .RUNNING) :
    s.stopChannel i reason = s.setChannel i { s.channels[i] with
      state := .SETTLING
      stopReason := some reason
      stopSecond := some s.phase.seconds
      settling := some (s.after 5000)
      zeroReports := 0 } := if_pos h

theorem heedTank_eq (t : Fin 8) (st : TankState) (i : Fin 2) (s : State) :
    s.heedTank t st i = s.setChannel i (s.channels[i].afterTankState t st s.phase.seconds (s.after 5000)) := by
  rw [Channel.afterTankState, State.heedTank]
  split_ifs with hsrc hdst
  · rw [stopChannel_running hsrc.1]
  · rw [stopChannel_running hdst.1]
  · rw [setChannel_self]

theorem set_both {α : Type} (v : Vector α 2) (f : α → α) :
    (v.set (0 : Fin 2) (f v[(0 : Fin 2)])).set (1 : Fin 2) (f v[(1 : Fin 2)]) = Vector.ofFn fun c : Fin 2 => f v[c] := by
  ext k hk
  match k, hk with
  | 0, _ => simp
  | 1, _ => simp

theorem movementTankState_channels (t : Fin 8) (st : TankState) (s : State) : s.movementTankState t st = { s with
    channels := Vector.ofFn fun c : Fin 2 => s.channels[c].afterTankState t st s.phase.seconds (s.after 5000) } := by
  have hother (c : Channel) : (s.setChannel 0 c).channels[(1 : Fin 2)] = s.channels[(1 : Fin 2)] :=
    Vector.getElem_set_ne (by decide) (by decide) (by decide)
  rw [movementTankState_eq, heedTank_eq, heedTank_eq, hother,
    ← set_both s.channels (fun c => c.afterTankState t st s.phase.seconds (s.after 5000))]
  rfl

/-- R51: a slot once its feed has been set, where the tank feeds it. -/
def State.fedEngine (t : Fin 8) (level : FeedLevel) (s : State) (i : Fin 8) : Engine :=
  if s.engines[i].fedBy t then
    ({ s.engines[i] with feed := level }).settle (s.tripLatch.get s.engines[i].cfg.station) s.dwellEnd
  else s.engines[i]

/-- R51, R58: the slots, the waiting result and the event of a feed change under way. -/
def State.withSlots (after : Fin 8 → Engine) (lost : Fin 8 → Bool) (changed : Bool) (s : State) : State :=
  ({ s with engines := Vector.ofFn after }.voidShares lost).postIf changed .ENGINE_CHANGED

theorem withSlots_engine (after : Fin 8 → Engine) (lost : Fin 8 → Bool) (changed : Bool) (i : Fin 8) :
    (s.withSlots after lost changed).engines[i] = after i := by
  cases changed <;> simp [State.withSlots, State.voidShares, State.postIf, State.post]

theorem post_post (k : EventKind) (s : State) : (s.post k).post k = s.post k := by
  simp only [State.post, PortRec.post, BitVec.or_assoc, BitVec.or_self]

theorem postIf_postIf (b c : Bool) (k : EventKind) (s : State) : (s.postIf b k).postIf c k = s.postIf (b || c) k := by
  cases b <;> cases c <;> simp [State.postIf, post_post]

theorem set_ofFn {α : Type} {n : Nat} (f : Fin n → α) (i : Fin n) (x : α) :
    (Vector.ofFn f).set i x = Vector.ofFn (Function.update f i x) := by
  ext k hk
  by_cases h : i.val = k
  · subst h
    simp
  · rw [Vector.getElem_set_ne i.isLt hk h, Vector.getElem_ofFn, Vector.getElem_ofFn,
      Function.update_of_ne (fun hki => h (congrArg Fin.val hki).symm)]

theorem voidShares_voidShares (a b : Fin 8 → Bool) (s : State) :
    (s.voidShares a).voidShares b = s.voidShares fun i => a i || b i := by
  simp only [State.voidShares, Option.map_map]
  congr 2
  funext v
  ext k hk
  simp only [Function.comp_apply, Vector.getElem_ofFn, Fin.getElem_fin, Bool.or_eq_true]
  split_ifs <;> simp_all

theorem voidShares_postIf (a : Fin 8 → Bool) (b : Bool) (k : EventKind) (s : State) :
    (s.postIf b k).voidShares a = (s.voidShares a).postIf b k := by cases b <;> rfl

/-- Whether a feed change takes a slot its eligibility. -/
def State.losesSlot (t : Fin 8) (level : FeedLevel) (s : State) (i : Fin 8) : Bool :=
  s.engines[i].eligible && !(s.fedEngine t level i).eligible

def State.feedStep (t : Fin 8) (level : FeedLevel) (s : State) (i : Fin 8) : State :=
  if s.engines[i].fedBy t then s.updateEngine i (fun e => { e with feed := level }) else s

theorem feedStep_withSlots {t : Fin 8} {level : FeedLevel} {i : Fin 8} {g : Fin 8 → Engine} {lost : Fin 8 → Bool} {c : Bool}
    (hg : g i = s.engines[i]) : (s.withSlots g lost c).feedStep t level i =
      s.withSlots (Function.update g i (s.fedEngine t level i))
        (fun j => lost j || (decide (j = i) && s.losesSlot t level i))
        (c || decide ((s.fedEngine t level i).state ≠ s.engines[i].state)) := by
  have hget := (withSlots_engine (s := s) g lost c i).trans hg
  have hlatch : (s.withSlots g lost c).tripLatch = s.tripLatch := by cases c <;> rfl
  have hdwell : (s.withSlots g lost c).dwellEnd = s.dwellEnd := by cases c <;> rfl
  have hset (x : Engine) (b : Fin 8 → Bool) : ((s.withSlots g lost c).voidShares b).setEngine i x =
      s.withSlots (Function.update g i x) (fun j => lost j || b j) c := by
    rw [State.withSlots, voidShares_postIf, voidShares_voidShares]
    cases c <;> simp only [State.withSlots, State.setEngine, State.voidShares, State.postIf, State.post, ← set_ofFn,
      Bool.false_eq_true, if_true, if_false]
  rw [State.feedStep, hget]
  cases hfed : s.engines[i].fedBy t with
  | false =>
    have hsame : s.fedEngine t level i = s.engines[i] := if_neg (ne_true_of hfed)
    have hlost : s.losesSlot t level i = false := by rw [State.losesSlot, hsame, Bool.and_not_self]
    rw [if_neg Bool.false_ne_true, hsame, hlost, ← hg, Function.update_eq_self]
    simp only [Bool.and_false, Bool.or_false, ne_eq, not_true_eq_false, decide_false]
  | true =>
    have hset' : s.fedEngine t level i = ({ s.engines[i] with feed := level }).settle
        (s.tripLatch.get s.engines[i].cfg.station) s.dwellEnd := if_pos hfed
    rw [if_pos rfl, State.updateEngine]
    simp only [hget, hlatch, hdwell, ← hset']
    rw [hset, State.withSlots, postIf_postIf]
    rfl

theorem foldl_feedStep {t : Fin 8} {level : FeedLevel} (l : List (Fin 8)) (hl : l.Nodup) (g : Fin 8 → Engine)
    (lost : Fin 8 → Bool) (c : Bool) (hg : ∀ i ∈ l, g i = s.engines[i]) :
    l.foldl (fun s i => s.feedStep t level i) (s.withSlots g lost c) =
      s.withSlots (fun i => if i ∈ l then s.fedEngine t level i else g i)
        (fun i => lost i || (decide (i ∈ l) && s.losesSlot t level i))
        (c || l.any fun i => decide ((s.fedEngine t level i).state ≠ s.engines[i].state)) := by
  induction l generalizing g lost c with
  | nil => simp
  | cons a l ih =>
    obtain ⟨ha, hl⟩ := List.nodup_cons.mp hl
    have htail (i : Fin 8) (hi : i ∈ l) : Function.update g a (s.fedEngine t level a) i = s.engines[i] := by
      have hne : i ≠ a := by
        rintro rfl
        exact ha hi
      rw [Function.update_of_ne hne]
      exact hg i (List.mem_cons_of_mem a hi)
    rw [List.foldl_cons, feedStep_withSlots (hg a List.mem_cons_self), ih hl _ _ _ htail]
    congr 1
    · funext i
      by_cases hi : i = a
      · subst hi
        simp [ha]
      · simp [hi]
    · funext i
      by_cases hi : i = a
      · subst hi
        simp [ha]
      · simp [hi]
    · rw [List.any_cons, Bool.or_assoc]

/-- R51, R58: what a feed change leaves, slot by slot. -/
theorem feedChanged_eq (t : Fin 8) (level : FeedLevel) (s : State) : s.feedChanged t level =
    (s.withSlots (s.fedEngine t level) (s.losesSlot t level)
      ((List.finRange 8).any fun i => decide ((s.fedEngine t level i).state ≠ s.engines[i].state))).postIf
      ((List.finRange 8).any fun i =>
        s.engines[i].fedBy t && decide (level = .EMPTY) && decide (s.engines[i].feed ≠ .EMPTY)) .FEED_STARVED := by
  have hself : s = s.withSlots (fun i => s.engines[i]) (fun _ => false) false := by
    have hengines : (Vector.ofFn fun i : Fin 8 => s.engines[i]) = s.engines := by
      ext k hk
      simp
    rw [State.withSlots, voidShares_none, hengines]
    rfl
  have hfold := foldl_feedStep (s := s) (t := t) (level := level) (List.finRange 8) (List.nodup_finRange 8)
    (fun i => s.engines[i]) (fun _ => false) false fun _ _ => rfl
  rw [← hself] at hfold
  simp only [List.mem_finRange, if_true, decide_true, Bool.true_and, Bool.false_or] at hfold
  rw [State.feedChanged, ← hfold]
  rfl

theorem fedBy_iff {t : Fin 8} {e : Engine} : e.fedBy t = true ↔ e.configured = true ∧ e.cfg.feedTank = t := by
  simp only [Engine.fedBy, Bool.and_eq_true, decide_eq_true_eq]

theorem stepState_or (g : TankCfg) (v : Int) (st : TankState) :
    stepState g v st = (stepDown g v st).or (stepUp g v st) := by
  cases hdown : stepDown g v st with
  | none => exact stepState_up hdown
  | some st' => exact stepState_down hdown

theorem if_some_or {α : Type} (c : Prop) [Decidable c] (x : α) (o : Option α) :
    (if c then some x else none).or o = if c then some x else o := by
  split <;> rfl

theorem stepState_eq (g : TankCfg) (v : Int) :
    stepState g v .EMPTY = (if ((g.empty + g.hysteresis : Nat) : Int) * 1000 < v then some .RESERVE else none)
    ∧ stepState g v .RESERVE = (if v ≤ (g.empty : Int) * 1000 then some .EMPTY
      else if ((g.reserve + g.hysteresis : Nat) : Int) * 1000 < v then some .LOW else none)
    ∧ stepState g v .LOW = (if v ≤ (g.reserve : Int) * 1000 then some .RESERVE
      else if ((g.low + g.hysteresis : Nat) : Int) * 1000 < v then some .NORMAL else none)
    ∧ stepState g v .NORMAL = (if v ≤ (g.low : Int) * 1000 then some .LOW
      else if (g.high : Int) * 1000 ≤ v then some .HIGH else none)
    ∧ stepState g v .HIGH = (if v < ((g.high : Int) - g.hysteresis) * 1000 then some .NORMAL else none) := by
  have hadd (a b : Nat) : ((a + b : Nat) : Int) * 1000 = litres a + litres b := by
    simp only [litres, Nat.cast_add, add_mul]
  have hsub (a b : Nat) : ((a : Int) - b) * 1000 = litres a - litres b := by
    simp only [litres, sub_mul]
  have hlitres (a : Nat) : (a : Int) * 1000 = litres a := rfl
  simp only [stepState_or, stepDown, stepUp, Option.none_or, Option.or_none, if_some_or, hadd, hsub, hlitres, and_self]

theorem levelUsed_eq (t : Tank) : t.levelUsed =
    match t.sounding with
    | some l => if t.cfg.source = .SOUNDING ∧ t.soundingValid = true then (l : Int) * 1000 else t.account.book
    | none => t.account.book := by
  cases hsource : t.cfg.source <;> cases hvalid : t.soundingValid <;> cases hsounding : t.sounding <;>
    simp [Tank.levelUsed, litres, hsource, hvalid, hsounding]

theorem losesSlot_iff {t : Fin 8} {level : FeedLevel} {i : Fin 8} : s.losesSlot t level i = true ↔
    s.engines[i].eligible = true ∧ (s.fedEngine t level i).eligible = false := by
  simp only [State.losesSlot, Bool.and_eq_true, Bool.not_eq_true']

/-- R51, R58: the feed change, with its slots given by `after`. -/
theorem feedChanged_after {t : Fin 8} {level : FeedLevel} {after : Fin 8 → Engine} (h : after = s.fedEngine t level) :
    s.feedChanged t level = (({ s with
        engines := Vector.ofFn after
        engineResult := s.engineResult.map fun shares : Vector Int 8 => Vector.ofFn fun i : Fin 8 =>
          if s.engines[i].eligible = true ∧ (after i).eligible = false then 0 else shares[i] }).postIf
      (decide (∃ i : Fin 8, (after i).state ≠ s.engines[i].state)) .ENGINE_CHANGED).postIf
      (decide (level = FeedLevel.EMPTY ∧ ∃ i : Fin 8, s.engines[i].configured = true ∧ s.engines[i].cfg.feedTank = t
        ∧ s.engines[i].feed ≠ FeedLevel.EMPTY)) .FEED_STARVED := by
  subst h
  have hstarved : ((List.finRange 8).any fun i =>
      s.engines[i].fedBy t && decide (level = .EMPTY) && decide (s.engines[i].feed ≠ .EMPTY)) =
      decide (level = FeedLevel.EMPTY ∧ ∃ i : Fin 8, s.engines[i].configured = true ∧ s.engines[i].cfg.feedTank = t
        ∧ s.engines[i].feed ≠ FeedLevel.EMPTY) := by
    rw [Bool.eq_iff_iff]
    simp only [List.any_eq_true, List.mem_finRange, true_and, Bool.and_eq_true, fedBy_iff, decide_eq_true_eq]
    grind
  have hchanged : ((List.finRange 8).any fun i => decide ((s.fedEngine t level i).state ≠ s.engines[i].state)) =
      decide (∃ i : Fin 8, (s.fedEngine t level i).state ≠ s.engines[i].state) := by
    rw [Bool.eq_iff_iff]
    simp only [List.any_eq_true, List.mem_finRange, true_and, decide_eq_true_eq]
  rw [feedChanged_eq, hstarved, hchanged, State.withSlots]
  simp only [State.voidShares, losesSlot_iff]

/-- Settles O41: the level used by its source, a derivation step by step until it settles, and what each change of a
tank's state makes of the slots and the channels. -/
theorem tankStates : Obligations.TankStates := by
  unfold Obligations.TankStates
  refine ⟨levelUsed_eq, fun g v => ?_, fun i s st hst => ⟨deriveTank_same hst, fun hu hr hne => ?_⟩,
    fun t level s after hafter => feedChanged_after ?_, movementTankState_channels⟩
  · obtain ⟨hempty, hreserve, hlow, hnormal, hhigh⟩ := stepState_eq g v
    exact ⟨hempty, hreserve, hlow, hnormal, hhigh, fun st => ⟨fun h => deriveFrom_settled 5 h,
      fun st' h => deriveTankState_step h, deriveTankState_settles g v st⟩⟩
  · rw [deriveTank_changed hst hu hr hne, feedLevelOf_eq]
    rfl
  · funext i
    simp only [hafter, State.fedEngine, fedBy_iff]
    rfl

end Sys2Proof.Machine
end


section
/-! SUPPORT. The fuel account: soundings and the discrepancy monitor (O42). -/

namespace Sys2Proof.Machine

open Sys2Proof

variable {s : State}

/-! ## The discrepancy test (R130) -/

theorem setTank_self (i : Fin 8) : s.setTank i s.tanks[i] = s := by
  simp only [State.setTank, Fin.getElem_fin, Vector.set_getElem_self]

theorem tankDiscTest_off {t : Tank} (now : Nat) (h : t.used = false ∨ t.soundingValid = false ∨ t.sounding = none) :
    t.discTest now = t := by
  unfold Tank.discTest
  split
  · next hu hv hs => simp [hu, hv, hs] at h
  · rfl

theorem tankDiscTest_within {t : Tank} {l : Nat} (now : Nat) (hu : t.used = true) (hv : t.soundingValid = true)
    (hs : t.sounding = some l) (h : (t.account.book.tdiv 1000 - l).natAbs ≤ t.cfg.limit) :
    t.discTest now = { t with discDeadline := none, discrepancy := false } := by
  simp only [Tank.discTest, hu, hv, hs, if_neg (Nat.not_lt.mpr h)]

theorem tankDiscTest_beyond {t : Tank} {l : Nat} (now : Nat) (hu : t.used = true) (hv : t.soundingValid = true)
    (hs : t.sounding = some l) (h : t.cfg.limit < (t.account.book.tdiv 1000 - l).natAbs) :
    t.discTest now = if t.discDeadline = none ∧ t.discrepancy = false
      then { t with discDeadline := some (now + ms 60000) } else t := by
  simp only [Tank.discTest, hu, hv, hs, if_pos h, Bool.and_eq_true, Option.isNone_iff_eq_none, Bool.not_eq_true']

/-! ## Reports and node states (R129) -/

theorem sounded_eq (r : TankReport) (t : Tank) : t.sounded r = { t with
    sounding := some r.level
    soundingValid := r.valid
    discDeadline := if r.valid = true then t.discDeadline else none } := by
  cases hv : r.valid <;> simp only [Tank.sounded, Tank.soundingLost, hv, if_true, if_false, Bool.false_eq_true]

theorem getTank_setTank (i : Fin 8) (t : Tank) : (s.setTank i t).tanks[i] = t := by
  simp only [State.setTank, Fin.getElem_fin, Vector.getElem_set_self]

theorem deriveSounded_setTank {i : Fin 8} {t : Tank} (h : t.cfg.source = s.tanks[i].cfg.source) :
    (s.setTank i t).deriveSounded i =
      if s.tanks[i].cfg.source = .SOUNDING then (s.setTank i t).deriveTank i else s.setTank i t := by
  rw [State.deriveSounded, getTank_setTank, h]

theorem exec_tankReport (i : Fin 8) (r : TankReport) (h : Running s) : exec (.tankReportTaken i r) s =
    .next (if s.tanks[i].used then (s.takeHandover (.tankReportTaken i r)).tankReport i r
      else s.takeHandover (.tankReportTaken i r)) := by
  rw [exec, execTankReportTaken, taken_running h]
  rfl

theorem exec_tankNode (i : Fin 8) (st : NodeState) (h : Running s) : exec (.tankNodeStateTaken i st) s =
    .next (if s.tanks[i].used then (s.takeHandover (.tankNodeStateTaken i st)).tankNode i st
      else s.takeHandover (.tankNodeStateTaken i st)) := by
  rw [exec, execTankNodeStateTaken, taken_running h]
  rfl

/-- Settles O42. -/
theorem soundings : Obligations.Soundings := by
  unfold Obligations.Soundings
  refine ⟨fun i r st s t u h hu => ⟨fun ht => ?_, fun hst => ?_, fun hst hut => ?_⟩, fun i r st s h hu => ⟨?_, ?_⟩,
    fun i s t ht => ⟨fun hoff => ?_, fun l hu hv hs => ⟨fun hle => ?_, fun hlt => ⟨fun hd hf => ?_, fun hset => ?_⟩⟩⟩,
    fun i d s h hd => ?_, fun i s hd => exec_absent (d := fun s => s.tanks[i].discDeadline) hd⟩
  · have hset : (s.takeHandover (.tankReportTaken i r)).setTank i (s.tanks[i].sounded r) = t := by
      rw [sounded_eq, ht]
      rfl
    have hsource : (s.tanks[i].sounded r).cfg.source = s.tanks[i].cfg.source := by rw [sounded_eq]
    rw [exec_tankReport i r h, if_pos hu, ← hset]
    exact congrArg (fun x => Host.Outcome.next (State.discTest i x))
      (deriveSounded_setTank (s := s.takeHandover (.tankReportTaken i r)) hsource)
  · rw [exec_tankNode i st h, if_pos hu, State.tankNode, if_pos]
    rcases hst with rfl | rfl <;> rfl
  · have hgone : available st = false := by rcases hst with rfl | rfl <;> rfl
    have hset : (s.takeHandover (.tankNodeStateTaken i st)).setTank i s.tanks[i].soundingLost = u := by
      rw [hut]
      rfl
    rw [exec_tankNode i st h, if_pos hu, State.tankNode, if_neg (ne_true_of hgone), ← hset]
    exact congrArg Host.Outcome.next (deriveSounded_setTank (s := s.takeHandover (.tankNodeStateTaken i st)) rfl)
  · rw [exec_tankReport i r h, if_neg (ne_true_of hu)]
  · rw [exec_tankNode i st h, if_neg (ne_true_of hu)]
  · rw [State.discTest, tankDiscTest_off s.now (ht ▸ hoff), setTank_self]
  · subst ht
    rw [State.discTest, tankDiscTest_within s.now hu hv hs hle]
    rfl
  · subst ht
    rw [State.discTest, tankDiscTest_beyond s.now hu hv hs hlt, if_pos ⟨hd, hf⟩]
    rfl
  · subst ht
    rw [State.discTest, tankDiscTest_beyond s.now hu hv hs hlt, if_neg, setTank_self]
    rintro ⟨hd, hf⟩
    exact hset.elim (fun h => h hd) (fun h => ne_true_of hf h)
  · rw [exec, execDiscrepancyDeadlineExpiry, live_awake h, hd, onExpiry_some]
    rfl

end Sys2Proof.Machine
end


section
/-! SUPPORT. The requests of port E that set the account and the live fuel fields (O43). -/

namespace Sys2Proof.Machine

open Sys2Proof

variable {s t : State} {r : Result} {body : List Byte}

/-! ## The checks that come first -/

theorem inRunning_on (f : Act) (hrun : s.running = true) : inRunning f s = f s := if_pos hrun

/-- A request of port E in RUNNING that names an entry. -/
theorem fuelEntry_at {n : Nat} (h : n ≤ 256) (i : Fin n) (f : Fin n → Act) (hrun : s.running = true) :
    fuelPortOnly .E (inRunning (orElse (indexOf n (BitVec.ofNat 8 i.val)) .BAD_INDEX f)) s = f i s := by
  rw [orElse_some (indexOf_fin h i)]
  exact inRunning_on _ hrun

theorem fuelEntry_beyond {n : Nat} {b : Byte} (h : n ≤ b.toNat) (f : Fin n → Act) (hrun : s.running = true) :
    fuelPortOnly .E (inRunning (orElse (indexOf n b) .BAD_INDEX f)) s = answer .BAD_INDEX s := by
  rw [orElse_none (indexOf_ge h)]
  exact inRunning_on _ hrun

/-! ## SET_METER (R106) -/

theorem clampNat_top (hi v : Nat) : clampNat 0 hi v = min hi v := Nat.zero_max _

theorem clampNat_half (v : Half) : clampNat 1 65535 v.toNat = max 1 v.toNat := by
  have := v.isLt
  unfold clampNat
  omega

theorem writeLive_used (alpha limit : Half) {i : Fin 16} (h : s.meters[i].used = true) :
    writeLive alpha.toNat limit.toNat i s = ({ s with meters := s.meters.set i { s.meters[i] with
        cfg := { s.meters[i].cfg with alpha := min 2000 alpha.toNat, limit := max 1 limit.toNat } } },
      .answered (if alpha.toNat ≤ 2000 ∧ 1 ≤ limit.toNat then .DONE else .CLAMPED) []) := by
  have hiff : (min 2000 alpha.toNat = alpha.toNat ∧ max 1 limit.toNat = limit.toNat) ↔
      (alpha.toNat ≤ 2000 ∧ 1 ≤ limit.toNat) := by omega
  refine (if_pos h).trans ?_
  simp only [clampNat_top, clampNat_half, hiff]
  rfl

theorem writeLive_unused {alpha limit : Nat} {i : Fin 16} (h : s.meters[i].used = false) :
    writeLive alpha limit i s = answer .BAD_VALUE s := if_neg (ne_true_of h)

/-! ## SET_FEED (R132) -/

theorem feedEntry_mismatch {e t : Fin 8} (h : s.engines[e].configured = false ∨ s.tanks[t].used = false
    ∨ s.tanks[t].cfg.station ≠ s.engines[e].cfg.station) : feedEntry e t s = answer .BAD_VALUE s :=
  if_pos (by simpa only [Bool.not_eq_true'] using h)

theorem feedEntry_fits {e t : Fin 8} (h : ¬(s.engines[e].configured = false ∨ s.tanks[t].used = false
    ∨ s.tanks[t].cfg.station ≠ s.engines[e].cfg.station)) : feedEntry e t s =
      if s.tanks[t].state = some .EMPTY then answer .SOURCE_LOW s
      else if s.engines[e].cfg.feedTank = t then answer .DONE s else doneWith (State.moveFeed e t) s :=
  if_neg (by simpa only [Bool.not_eq_true'] using h)

theorem feedLevelOf_not_empty {st : Option TankState} (h : st ≠ some .EMPTY) :
    feedLevelOf st = if st = some .RESERVE then .RESERVE else .FED := by
  match st with
  | none => rfl
  | some .EMPTY => exact absurd rfl h
  | some .RESERVE => rfl
  | some .LOW => rfl
  | some .NORMAL => rfl
  | some .HIGH => rfl

/-! ## SET_TANK (R133) -/

theorem sourceOf_ge {b : Byte} (h : 2 ≤ b.toNat) : sourceOf b = none := by
  unfold sourceOf
  split <;> simp_all

theorem tankLive_bad {source : Byte} {limit : Nat} {i : Fin 8} (h : s.tanks[i].used = false ∨ sourceOf source = none) :
    tankLive source limit i s = answer .BAD_VALUE s := by
  cases hu : s.tanks[i].used with
  | false => exact if_pos (by rw [hu]; rfl)
  | true =>
    have hsource := h.resolve_left (ne_false_of hu)
    simp only [tankLive, hu, hsource]
    rfl

theorem tankLive_unfitted {source : Byte} {limit : Nat} {i : Fin 8} (hsource : sourceOf source = some .SOUNDING)
    (hf : s.tanks[i].cfg.fitted = false) : tankLive source limit i s = answer .BAD_VALUE s := by
  cases hu : s.tanks[i].used with
  | false => exact tankLive_bad (.inl hu)
  | true =>
    simp only [tankLive, hu, hsource, hf]
    rfl

theorem tankLive_done {source : Byte} {limit : Nat} {i : Fin 8} {src : StateSource} (hu : s.tanks[i].used = true)
    (hsource : sourceOf source = some src) (hf : ¬(src = .SOUNDING ∧ s.tanks[i].cfg.fitted = false)) :
    tankLive source limit i s = (s.writeTankLive i src (clampNat 1 20000 limit),
      .answered (if clampNat 1 20000 limit = limit then .DONE else .CLAMPED) []) := by
  simp only [tankLive, hu, hsource]
  exact if_neg hf

/-! ## REBASE_TANK (R131) -/

theorem claimed_iff {i : Fin 8} : (s.channelWhere fun c => c.claimsTank i).isSome = true ↔
    ∃ c : Fin 2, s.channels[c].state ≠ .IDLE ∧ (s.channels[c].destination = some i ∨ s.channels[c].source = some i) := by
  simp only [State.channelWhere, List.find?_isSome, List.mem_finRange, true_and, Channel.claimsTank, Channel.isOpen,
    Bool.and_eq_true, Bool.or_eq_true, decide_eq_true_eq]

theorem readOpt_zero {n : Nat} {o : OptParam n} (h : o.presence = 0) : readOpt o = .absent := by
  simp [readOpt, h]

theorem holds_iff {g : TankCfg} {v : Nat} : g.holds v = true ↔ v ≤ g.capacity * 1000 := decide_eq_true_iff

section
variable {i : Fin 8} {o : OptValue}

theorem rebaseWith_unused (hu : s.tanks[i].used = false) : rebaseWith o i s = answer .BAD_VALUE s :=
  if_pos (by rw [hu]; rfl)

theorem rebaseWith_bad : rebaseWith .bad i s = answer .BAD_VALUE s := by
  simp only [rebaseWith, ite_self]

theorem rebaseWith_excess {v : Nat} (h : s.tanks[i].cfg.capacity * 1000 < v) :
    rebaseWith (.present v) i s = answer .BAD_VALUE s := by
  have hno : s.tanks[i].cfg.holds v = false := decide_eq_false (Nat.not_le.mpr h)
  simp only [rebaseWith, hno, Bool.not_false, if_true, ite_self]

theorem rebaseWith_present {v : Nat} (hu : s.tanks[i].used = true) (h : v ≤ s.tanks[i].cfg.capacity * 1000) :
    rebaseWith (.present v) i s = if (s.channelWhere fun c => c.claimsTank i).isSome then answer .TANK_BUSY s
      else doneWith (State.rebaseTank i v) s := by
  simp only [rebaseWith, hu, holds_iff.mpr h]
  rfl

theorem rebaseWith_claimed (hu : s.tanks[i].used = true) (hc : (s.channelWhere fun c => c.claimsTank i).isSome = true) :
    rebaseWith .absent i s = answer .TANK_BUSY s := by
  simp only [rebaseWith, hu, hc]
  rfl

theorem rebaseWith_unsounded (hu : s.tanks[i].used = true) (hc : (s.channelWhere fun c => c.claimsTank i).isSome = false)
    (h : s.tanks[i].soundingValid = false ∨ s.tanks[i].sounding = none) :
    rebaseWith .absent i s = answer .NOT_READY s := by
  simp only [rebaseWith, hu, hc]
  cases hs : s.tanks[i].sounding with
  | none => cases s.tanks[i].soundingValid <;> rfl
  | some l =>
    rw [h.resolve_right (by rw [hs]; exact Option.some_ne_none l)]
    rfl

theorem rebaseWith_sounded {l : Nat} (hu : s.tanks[i].used = true)
    (hc : (s.channelWhere fun c => c.claimsTank i).isSome = false) (hv : s.tanks[i].soundingValid = true)
    (hs : s.tanks[i].sounding = some l) : rebaseWith .absent i s =
      if s.tanks[i].cfg.holds (l * 1000) then doneWith (State.rebaseTank i (litres l)) s else answer .BAD_VALUE s := by
  simp only [rebaseWith, hu, hc, hv, hs]
  rfl

end

theorem rebaseTank_at (i : Fin 8) (o : OptParam 32) :
    decideRebaseTank .E (BitVec.ofNat 8 i.val) o s = rebaseWith (readOpt o) i s := by
  rw [decideRebaseTank, orElse_some (indexOf_fin (by decide) i)]
  rfl

section
variable {tag : Byte} (hr : Ready .E s)
include hr

theorem exec_setMeter (i : Fin 16) (alpha limit : Half) (hrun : s.running = true) :
    exec (.setMeter .E tag (BitVec.ofNat 8 i.val) alpha limit) s =
      .next (if s.meters[i].used = true then ({ s with meters := s.meters.set i { s.meters[i] with
          cfg := { s.meters[i].cfg with alpha := min 2000 alpha.toNat, limit := max 1 limit.toNat } } }).reply .E tag
            (if alpha.toNat ≤ 2000 ∧ 1 ≤ limit.toNat then .DONE else .CLAMPED) []
        else s.reply .E tag .BAD_VALUE []) := by
  by_cases hu : s.meters[i].used = true
  · rw [if_pos hu]
    exact exec_answer rfl hr ((fuelEntry_at (by decide) i _ hrun).trans (writeLive_used alpha limit hu))
  · rw [if_neg hu]
    exact exec_answer rfl hr ((fuelEntry_at (by decide) i _ hrun).trans (writeLive_unused (Bool.eq_false_iff.mpr hu)))

theorem exec_setFeed (e t : Fin 8) (hrun : s.running = true) :
    exec (.setFeed .E tag (BitVec.ofNat 8 e.val) (BitVec.ofNat 8 t.val)) s = .next
      (if s.engines[e].configured = false ∨ s.tanks[t].used = false
          ∨ s.tanks[t].cfg.station ≠ s.engines[e].cfg.station then s.reply .E tag .BAD_VALUE []
       else if s.tanks[t].state = some .EMPTY then s.reply .E tag .SOURCE_LOW []
       else if s.engines[e].cfg.feedTank = t then s.reply .E tag .DONE []
       else (s.updateEngine e fun x => { x with
         cfg := { x.cfg with feedTank := t }
         feed := if s.tanks[t].state = some .RESERVE then .RESERVE else .FED }).reply .E tag .DONE []) := by
  have hact : decideSetFeed .E (BitVec.ofNat 8 e.val) (BitVec.ofNat 8 t.val) s = feedEntry e t s :=
    (fuelEntry_at (by decide) e _ hrun).trans (congrFun (orElse_some (indexOf_fin (by decide) t)) s)
  by_cases hfit : s.engines[e].configured = false ∨ s.tanks[t].used = false ∨ s.tanks[t].cfg.station ≠ s.engines[e].cfg.station
  · rw [if_pos hfit]
    exact exec_answer rfl hr (hact.trans (feedEntry_mismatch hfit))
  rw [if_neg hfit]
  replace hact := hact.trans (feedEntry_fits hfit)
  by_cases hempty : s.tanks[t].state = some .EMPTY
  · rw [if_pos hempty] at hact ⊢
    exact exec_answer rfl hr hact
  rw [if_neg hempty] at hact ⊢
  by_cases hsame : s.engines[e].cfg.feedTank = t
  · rw [if_pos hsame] at hact ⊢
    exact exec_answer rfl hr hact
  · rw [if_neg hsame, doneWith, State.moveFeed, feedLevelOf_not_empty hempty] at hact
    rw [if_neg hsame]
    exact exec_answer rfl hr hact

theorem exec_setTank {i : Fin 8} {source : StateSource} {limit : Half} {l : Nat} {t u : State} (hrun : s.running = true)
    (hl : l = max 1 (min 20000 limit.toNat))
    (ht : t = { s with
      tanks := s.tanks.set i { s.tanks[i] with cfg := { s.tanks[i].cfg with source := source, limit := l } } })
    (hu : u = if s.tanks[i].cfg.source = source then t else t.deriveTank i) :
    exec (.setTank .E tag (BitVec.ofNat 8 i.val) (BitVec.ofNat 8 source.ctorIdx) limit) s = .next
      (if s.tanks[i].used = false ∨ (source = .SOUNDING ∧ s.tanks[i].cfg.fitted = false) then s.reply .E tag .BAD_VALUE []
       else (if s.tanks[i].cfg.limit = l then u else u.discTest i).reply .E tag
         (if l = limit.toNat then .DONE else .CLAMPED) []) := by
  have hact : decideSetTank .E (BitVec.ofNat 8 i.val) (BitVec.ofNat 8 source.ctorIdx) limit s =
      tankLive (BitVec.ofNat 8 source.ctorIdx) limit.toNat i s := fuelEntry_at (by decide) i _ hrun
  have hclamp : clampNat 1 20000 limit.toNat = l := hl.symm
  by_cases hbad : s.tanks[i].used = false ∨ (source = .SOUNDING ∧ s.tanks[i].cfg.fitted = false)
  · rw [if_pos hbad]
    rcases hbad with hunused | ⟨rfl, hfit⟩
    · exact exec_answer rfl hr (hact.trans (tankLive_bad (.inl hunused)))
    · exact exec_answer rfl hr (hact.trans (tankLive_unfitted (sourceOf_code _) hfit))
  · obtain ⟨hused, hfit⟩ := not_or.mp hbad
    replace hact := hact.trans (tankLive_done (Bool.eq_true_of_not_eq_false hused) (sourceOf_code source) hfit)
    rw [hclamp] at hact
    rw [if_neg hbad, hu, ht]
    exact exec_answer rfl hr hact

section
variable {i : Fin 8} {o : OptParam 32}

theorem exec_rebaseTank (ha : rebaseWith (readOpt o) i s = (t, .answered r body)) :
    exec (.rebaseTank .E tag (BitVec.ofNat 8 i.val) o) s = .next (t.reply .E tag r body) :=
  exec_answer rfl hr ((rebaseTank_at i o).trans ha)

theorem exec_rebaseTank_bad (h : s.tanks[i].used = false ∨ 2 ≤ o.presence.toNat
    ∨ (o.presence = 1 ∧ s.tanks[i].cfg.capacity * 1000 < o.value.toNat)) :
    exec (.rebaseTank .E tag (BitVec.ofNat 8 i.val) o) s = .next (s.reply .E tag .BAD_VALUE []) := by
  refine exec_rebaseTank hr ?_
  rcases h with hu | hp | ⟨hp, hv⟩
  · exact rebaseWith_unused hu
  · rw [readOpt_bad hp]
    exact rebaseWith_bad
  · rw [readOpt_one hp]
    exact rebaseWith_excess hv

theorem exec_rebaseTank_busy (hu : s.tanks[i].used = true)
    (ho : o.presence = 0 ∨ (o.presence = 1 ∧ o.value.toNat ≤ s.tanks[i].cfg.capacity * 1000))
    (hc : (s.channelWhere fun c => c.claimsTank i).isSome = true) :
    exec (.rebaseTank .E tag (BitVec.ofNat 8 i.val) o) s = .next (s.reply .E tag .TANK_BUSY []) := by
  refine exec_rebaseTank hr ?_
  rcases ho with hp | ⟨hp, hv⟩
  · rw [readOpt_zero hp]
    exact rebaseWith_claimed hu hc
  · rw [readOpt_one hp, rebaseWith_present hu hv, if_pos hc]
    rfl

theorem exec_rebaseTank_done {v : Nat} (hu : s.tanks[i].used = true)
    (hc : (s.channelWhere fun c => c.claimsTank i).isSome = false)
    (h : (o.presence = 1 ∧ v = o.value.toNat ∧ v ≤ s.tanks[i].cfg.capacity * 1000)
      ∨ (o.presence = 0 ∧ s.tanks[i].soundingValid = true
        ∧ ∃ l, s.tanks[i].sounding = some l ∧ l ≤ s.tanks[i].cfg.capacity ∧ v = l * 1000)) :
    exec (.rebaseTank .E tag (BitVec.ofNat 8 i.val) o) s = .next ((s.rebaseTank i v).reply .E tag .DONE []) := by
  refine exec_rebaseTank hr ?_
  rcases h with ⟨hp, rfl, hv⟩ | ⟨hp, hvalid, l, hs, hl, rfl⟩
  · rw [readOpt_one hp, rebaseWith_present hu hv, if_neg (ne_true_of hc)]
    rfl
  · have hlitres : ((l * 1000 : Nat) : Int) = litres l := Nat.cast_mul l 1000
    rw [readOpt_zero hp, rebaseWith_sounded hu hc hvalid hs, if_pos (holds_iff.mpr (Nat.mul_le_mul_right 1000 hl)), hlitres]
    rfl

end

end

/-- Settles O43. -/
theorem fuelSettings : Obligations.FuelSettings := by
  unfold Obligations.FuelSettings
  refine fun tag s hr => ⟨exec_setMeter hr, exec_setFeed hr, fun i source limit l t u hrun hl ht hu =>
    exec_setTank hr hrun hl ht hu, fun i o v claimed hclaimed => ⟨exec_rebaseTank_bad hr, fun hu ho => ?_⟩,
    fun i j alpha limit o => ⟨fun hi hrun => ?_, fun hij hrun => ?_, fun hi hrun => ?_, fun hi hj hrun => ?_, fun hi => ?_⟩⟩
  · have hclaim : (s.channelWhere fun c => c.claimsTank i).isSome = true ↔ claimed := by rw [claimed_iff, hclaimed]
    have hfree (hno : ¬claimed) : (s.channelWhere fun c => c.claimsTank i).isSome = false :=
      Bool.eq_false_iff.mpr fun h => hno (hclaim.mp h)
    refine ⟨fun hc => exec_rebaseTank_busy hr hu ho (hclaim.mpr hc), fun hno hp hs => ?_, fun l hno hp hv hs hl => ?_,
      fun hno h => ?_⟩
    · refine exec_rebaseTank hr ?_
      rw [readOpt_zero hp]
      exact rebaseWith_unsounded hu (hfree hno) hs
    · refine exec_rebaseTank hr ?_
      rw [readOpt_zero hp, rebaseWith_sounded hu (hfree hno) hv hs, if_neg (by rw [holds_iff]; omega)]
      rfl
    · refine exec_rebaseTank_done hr hu (hfree hno) ?_
      refine h.imp_left fun ⟨hp, hv⟩ => ⟨hp, hv, ?_⟩
      have hzero : o.presence ≠ 0 := by rw [hp]; decide
      exact hv ▸ (ho.resolve_left hzero).2
  · exact exec_answer rfl hr (fuelEntry_beyond hi _ hrun)
  · refine exec_answer rfl hr ?_
    by_cases hi : 8 ≤ i.toNat
    · exact fuelEntry_beyond hi _ hrun
    · have hat : indexOf 8 i = some ⟨i.toNat, Nat.not_le.mp hi⟩ := indexOf_lt (Nat.not_le.mp hi)
      rw [decideSetFeed, orElse_some hat, orElse_none (indexOf_ge (hij.resolve_left hi))]
      exact inRunning_on _ hrun
  · exact exec_answer rfl hr (fuelEntry_beyond hi _ hrun)
  · refine exec_answer rfl hr ?_
    rw [decideSetTank, orElse_some (indexOf_lt hi)]
    exact (inRunning_on _ hrun).trans (tankLive_bad (.inr (sourceOf_ge hj)))
  · refine exec_answer rfl hr ?_
    rw [decideRebaseTank, orElse_none (indexOf_ge hi)]
    rfl

end Sys2Proof.Machine
end


section
/-! SUPPORT. The movement controller: bookings (O45), and what stops and closes a movement (O46). -/

namespace Sys2Proof.Machine

open Sys2Proof

variable {s : State}

/-! ## Bookings (R143, R144, R149) -/

theorem bookMoved_eq (c : Channel) (q : Nat) (zero : Bool) : c.bookMoved q zero = { c with
    moved := if 4294967296 ≤ c.moved + q then c.moved + q - 4294967296 else c.moved + q
    overflow := c.overflow || decide (4294967296 ≤ c.moved + q)
    wraps := if 4294967296 ≤ c.moved + q then min 65535 (c.wraps + 1) else c.wraps
    runOn := if c.state = .SETTLING then min 4294967295 (c.runOn + q) else c.runOn
    zeroReports := if c.state = .SETTLING then (if zero = true then min 2 (c.zeroReports + 1) else 0)
      else c.zeroReports } := by
  by_cases hwrap : 4294967296 ≤ c.moved + q <;> by_cases hst : c.state = .SETTLING <;>
    simp [Channel.bookMoved, twoPow32, bump16, satAdd, hwrap, hst]

theorem countReached_iff {c : Channel} : c.countReached = true ↔
    c.state = .RUNNING ∧ c.mode = some .COUNT ∧ ∃ l, c.target = some l ∧ l * 1000 ≤ c.moved := by
  cases ht : c.target with
  | none => simp [Channel.countReached, ht]
  | some l => simp [Channel.countReached, ht, and_assoc]

theorem bookMovement_eq {i : Fin 2} {q : Nat} {zero : Bool} {d : Channel} (hd : d = s.channels[i].bookMoved q zero) :
    s.bookMovement i q zero =
      if d.state = .SETTLING ∧ d.zeroReports = 2
      then ((if d.countReached then (s.setChannel i d).stopChannel i .COUNT_REACHED
        else s.setChannel i d).bookMovementTanks d q).closeChannel i
      else (if d.countReached then (s.setChannel i d).stopChannel i .COUNT_REACHED
        else s.setChannel i d).bookMovementTanks d q := by
  subst hd
  rfl

/-- Settles O45: by the state the volume finds the channel in, which the booking of the count leaves as it is. -/
theorem movementBookings : Obligations.MovementBookings := by
  unfold Obligations.MovementBookings
  refine ⟨fun i q zero s t c d hc hd ht => ?_, fun c q s => ⟨fun d hk hdst => ?_, fun a d hk hsrc hdst => ?_⟩⟩
  · have hbook : d = s.channels[i].bookMoved q zero := by rw [hd, bookMoved_eq, hc]
    have hstate : d.state = c.state := by rw [hd]
    have hmode : d.mode = c.mode := by rw [hd]
    have htarget : d.target = c.target := by rw [hd]
    have hset : s.setChannel i d = t := ht.symm
    refine ⟨fun hrun => ⟨fun hcount => ?_, fun hno => ?_⟩, fun hsettle => ?_⟩
    · have hreached : d.countReached = true :=
        countReached_iff.mpr ⟨hstate.trans hrun, hmode.trans hcount.1, htarget ▸ hcount.2⟩
      rw [bookMovement_eq hbook, if_pos hreached, if_neg (by simp [hstate, hrun]), hset]
    · have hreached : ¬d.countReached = true := fun h => by
        obtain ⟨_, hm, hl⟩ := countReached_iff.mp h
        exact hno ⟨hmode ▸ hm, htarget ▸ hl⟩
      rw [bookMovement_eq hbook, if_neg hreached, if_neg (by simp [hstate, hrun]), hset]
    · have hreached : ¬d.countReached = true := fun h => by
        have hrun := (countReached_iff.mp h).1
        simp [hstate, hsettle] at hrun
      refine ⟨fun hzero => ?_, fun hzero => ?_⟩
      · rw [bookMovement_eq hbook, if_neg hreached, if_pos ⟨hstate.trans hsettle, hzero⟩, hset]
      · rw [bookMovement_eq hbook, if_neg hreached, if_neg (fun h => hzero h.2), hset]
  · simp only [State.bookMovementTanks, hk, hdst]
  · simp only [State.bookMovementTanks, hk, hsrc, hdst]

/-! ## Requests (R148, R152) -/

theorem stopChannel_still {i : Fin 2} {reason : StopReason} (h : s.channels[i].state ≠ .RUNNING) :
    s.stopChannel i reason = s := if_neg h

theorem closeChannel_settling {i : Fin 2} (h : s.channels[i].state = .SETTLING) :
    s.closeChannel i = State.post .MOVEMENT_ENDED
      ({ s with records := s.records ++ [s.channels[i].record s.phase.seconds] }.setChannel i
        { s.channels[i] with state := .IDLE, settling := none }) := if_pos h

theorem closeChannel_other {i : Fin 2} (h : s.channels[i].state ≠ .SETTLING) : s.closeChannel i = s := if_neg h

theorem channel_notice (p : Port) (i : Fin 2) : (holderNotice p s).channels[i] = s.channels[i] := by
  simp

theorem stopMovement_at (i : Fin 2) :
    decideStopMovement (BitVec.ofNat 8 i.val) s = inRunning (stopEntry i) s := by
  rw [decideStopMovement, orElse_some (indexOf_fin (by decide) i)]

theorem stopMovement_running {p : Port} (i : Fin 2) (hrun : s.running = true) :
    decideStopMovement (BitVec.ofNat 8 i.val) (holderNotice p s) = stopEntry i (holderNotice p s) := by
  rw [stopMovement_at, inRunning_on _ ((running_notice p s).trans hrun)]

theorem stopEntry_running {i : Fin 2} (h : s.channels[i].state = .RUNNING) :
    stopEntry i s = doneWith (State.stopChannel i .STOPPED) s := by simp only [stopEntry, h]

theorem stopEntry_settling {i : Fin 2} (h : s.channels[i].state = .SETTLING) : stopEntry i s = answer .DONE s := by
  simp only [stopEntry, h]

theorem stopEntry_idle {i : Fin 2} (h : s.channels[i].state = .IDLE) : stopEntry i s = answer .NOTHING_PENDING s := by
  simp only [stopEntry, h]

theorem retireOldest_nil (h : s.records = []) : retireOldest s = answer .NOTHING_PENDING s := by
  simp only [retireOldest, h]

theorem retireOldest_cons {r : MovementRecord} {rest : List MovementRecord} (h : s.records = r :: rest) :
    retireOldest s = ({ s with records := rest }, .answered .DONE (recordBody rest.length r)) := by
  simp only [retireOldest, h]

/-! ## Node states and pump reports (R142, R147) -/

theorem movementNode_available {node : MovementNode} {st : NodeState} (h : st = .ONLINE ∨ st = .SUSPECT) :
    s.movementNode node st = s := by
  rcases h with rfl | rfl <;> rfl

theorem movementNode_unclaimed {node : MovementNode} {st : NodeState} (h : s.claimant node = none) :
    s.movementNode node st = s := by
  cases hst : available st <;> simp only [State.movementNode, h, hst]

theorem movementNode_lost {node : MovementNode} {st : NodeState} {c : Fin 2} (hst : st = .UNHEARD ∨ st = .OFFLINE)
    (h : s.claimant node = some c) : s.movementNode node st = s.channelLoses node c := by
  have hgone : available st = false := by rcases hst with rfl | rfl <;> rfl
  simp only [State.movementNode, hgone, h]

theorem channelLoses_meter (m : Fin 16) (c : Fin 2) : s.channelLoses (.meter m) c =
    if s.channels[c].state = .RUNNING then s.stopChannel c .METER_LOST else s.closeChannel c := by
  cases h : s.channels[c].state with
  | RUNNING => simp only [State.channelLoses, h, if_true]
  | SETTLING => simp only [State.channelLoses, h, reduceCtorEq, if_false]
  | IDLE =>
    rw [closeChannel_other (by rw [h]; decide)]
    simp only [State.channelLoses, h, reduceCtorEq, if_false]

theorem channelLoses_pump (l : Line) (a : Nat) (c : Fin 2) :
    s.channelLoses (.pump l a) c = s.stopChannel c .PUMP_FAULT := by
  cases h : s.channels[c].state with
  | RUNNING => simp only [State.channelLoses, h]
  | SETTLING =>
    rw [stopChannel_still (by rw [h]; decide)]
    simp only [State.channelLoses, h]
  | IDLE =>
    rw [stopChannel_still (by rw [h]; decide)]
    simp only [State.channelLoses, h]

theorem pumpReport_unclaimed {l : Line} {a : Nat} {st : PumpStatus} (h : s.claimant (.pump l a) = none) :
    s.pumpReport l a st = s := by
  simp only [State.pumpReport, h]

theorem pumpReport_claimed {l : Line} {a : Nat} {st : PumpStatus} {c : Fin 2} (h : s.claimant (.pump l a) = some c) :
    s.pumpReport l a st = if st = .FAULT
      then (s.setChannel c { s.channels[c] with lastPump := some st }).stopChannel c .PUMP_FAULT
      else s.setChannel c { s.channels[c] with lastPump := some st } := by
  simp only [State.pumpReport, h]

theorem claimant_handover (i : Instr) (node : MovementNode) : (s.takeHandover i).claimant node = s.claimant node := by
  cases node <;> rfl

section
variable {m : Fin 16} {l : Line} {a : Nat} {c : Fin 2}

theorem no_meter_claimant (h : ∀ c : Fin 2, s.channels[c].claimsMeter m = false) : s.claimant (.meter m) = none :=
  channelWhere_none (f := fun c => c.claimsMeter m) h

theorem no_pump_claimant (h : ∀ c : Fin 2, s.channels[c].claimsPump { line := l, address := a } = false) :
    s.claimant (.pump l a) = none :=
  channelWhere_none (f := fun c => c.claimsPump { line := l, address := a }) h

theorem meter_claimant (hc : s.channels[c].claimsMeter m = true)
    (hfirst : ∀ d < c, s.channels[d].claimsMeter m = false) : s.claimant (.meter m) = some c :=
  channelWhere_some (f := fun c => c.claimsMeter m) hc hfirst

theorem pump_claimant (hc : s.channels[c].claimsPump { line := l, address := a } = true)
    (hfirst : ∀ d < c, s.channels[d].claimsPump { line := l, address := a } = false) :
    s.claimant (.pump l a) = some c :=
  channelWhere_some (f := fun c => c.claimsPump { line := l, address := a }) hc hfirst

end

theorem exec_movementNode (node : MovementNode) (st : NodeState) (h : Running s) :
    exec (.movementNodeStateTaken node st) s =
      .next ((s.takeHandover (.movementNodeStateTaken node st)).movementNode node st) := by
  rw [exec, execMovementNodeStateTaken, taken_running h]

theorem exec_pumpReport (l : Line) (a : Nat) (st : PumpStatus) (h : Running s) :
    exec (.pumpReportTaken l a st) s = .next ((s.takeHandover (.pumpReportTaken l a st)).pumpReport l a st) := by
  rw [exec, execPumpReportTaken, taken_running h]

theorem exec_movementNode_available {node : MovementNode} {st : NodeState} (h : Running s)
    (hst : st = .ONLINE ∨ st = .SUSPECT) :
    exec (.movementNodeStateTaken node st) s = .next (s.takeHandover (.movementNodeStateTaken node st)) := by
  rw [exec_movementNode node st h, movementNode_available hst]

/-- Settles O46. -/
theorem movementStops : Obligations.MovementStops := by
  unfold Obligations.MovementStops
  refine ⟨fun i reason s => ⟨stopChannel_running, stopChannel_still, closeChannel_settling, closeChannel_other⟩,
    fun p tag i s hr => ⟨fun hrun => ?_, fun hrun hst => ?_, fun hrun hst => ?_, fun hrun hst => ?_⟩,
    fun p tag channel s hr hge => ?_, fun tag s hr => ⟨fun hnil => ?_, fun r rest hcons => ?_⟩,
    fun i st m l a s t u h ht hu => ⟨fun hst => ⟨?_, ?_⟩,
      fun hst => ⟨fun hno => ?_, fun hno => ?_, fun hc hfirst => ?_, fun hc hfirst => ?_⟩⟩,
    fun i st l a s t h ht => ⟨fun hno => ?_, fun hc hfirst => ⟨fun hst => ?_, fun hst => ?_⟩⟩,
    fun i d s h hd => ?_, fun i s hd => exec_absent (d := fun s => s.channels[i].settling) hd⟩
  · refine exec_answer rfl hr ?_
    rw [stopMovement_at, inRunning_configuring _ ((running_notice p s).trans hrun)]
    rfl
  · refine exec_answer rfl hr ?_
    rw [stopMovement_running i hrun, stopEntry_running ((congrArg _ (channel_notice p i)).trans hst)]
    rfl
  · refine exec_answer rfl hr ?_
    rw [stopMovement_running i hrun, stopEntry_settling ((congrArg _ (channel_notice p i)).trans hst)]
    rfl
  · refine exec_answer rfl hr ?_
    rw [stopMovement_running i hrun, stopEntry_idle ((congrArg _ (channel_notice p i)).trans hst)]
    rfl
  · refine exec_answer rfl hr ?_
    rw [decideStopMovement, orElse_none (indexOf_ge hge)]
    rfl
  · exact exec_answer rfl hr (retireOldest_nil hnil)
  · exact exec_answer rfl hr (retireOldest_cons hcons)
  · rw [exec_movementNode_available h hst, ht]
  · rw [exec_movementNode_available h hst, hu]
  · rw [exec_movementNode _ st h, movementNode_unclaimed ((claimant_handover _ _).trans (no_meter_claimant hno)), ht]
  · rw [exec_movementNode _ st h, movementNode_unclaimed ((claimant_handover _ _).trans (no_pump_claimant hno)), hu]
  · rw [exec_movementNode _ st h, movementNode_lost hst ((claimant_handover _ _).trans (meter_claimant hc hfirst)),
      channelLoses_meter, ht]
    rfl
  · rw [exec_movementNode _ st h, movementNode_lost hst ((claimant_handover _ _).trans (pump_claimant hc hfirst)),
      channelLoses_pump, hu]
  · rw [exec_pumpReport l a st h, pumpReport_unclaimed ((claimant_handover _ _).trans (no_pump_claimant hno)), ht]
  · rw [exec_pumpReport l a st h, pumpReport_claimed ((claimant_handover _ _).trans (pump_claimant hc hfirst)),
      if_pos hst, ht]
    rfl
  · rw [exec_pumpReport l a st h, pumpReport_claimed ((claimant_handover _ _).trans (pump_claimant hc hfirst)),
      if_neg hst, ht]
    rfl
  · rw [exec, execSettlingDeadlineExpiry, live_awake h, hd, onExpiry_some]
    rfl

end Sys2Proof.Machine
end


section
/-! SUPPORT. START_MOVEMENT (O44): the consistent parameters, the checks in their order, and the start. -/

namespace Sys2Proof.Machine

open Sys2Proof

variable {s : State}

/-! ## The consistent parameters (R140, check 2) -/

theorem movementKindOf_iff {b : Byte} {k : MovementKind} :
    movementKindOf b = some k ↔ b = BitVec.ofNat 8 k.ctorIdx := by
  constructor
  · intro h
    unfold movementKindOf at h
    split at h <;> cases h <;> exact BitVec.eq_of_toNat_eq ‹_›
  · rintro rfl
    cases k <;> rfl

theorem movementModeOf_iff {b : Byte} {m : MovementMode} :
    movementModeOf b = some m ↔ b = BitVec.ofNat 8 m.ctorIdx := by
  constructor
  · intro h
    unfold movementModeOf at h
    split at h <;> cases h <;> exact BitVec.eq_of_toNat_eq ‹_›
  · rintro rfl
    cases m <;> rfl

theorem lineOf_iff {b : Byte} {l : Line} : lineOf b = some l ↔ b = BitVec.ofNat 8 l.ctorIdx := by
  constructor
  · intro h
    unfold lineOf at h
    split at h <;> cases h <;> exact BitVec.eq_of_toNat_eq ‹_›
  · rintro rfl
    exact lineOf_code l

theorem readOpt_absent_iff {n : Nat} {o : OptParam n} : readOpt o = .absent ↔ o.presence = 0 := by
  refine ⟨fun h => ?_, readOpt_zero⟩
  unfold readOpt at h
  split at h <;> cases h
  exact BitVec.eq_of_toNat_eq ‹_›

theorem readOpt_present_iff {n v : Nat} {o : OptParam n} : readOpt o = .present v ↔ o.presence = 1 ∧ v = o.value.toNat := by
  refine ⟨fun h => ?_, fun ⟨hp, hv⟩ => hv ▸ readOpt_one hp⟩
  unfold readOpt at h
  split at h <;> cases h
  exact ⟨BitVec.eq_of_toNat_eq ‹_›, rfl⟩

theorem sourceFor_transfer_iff {dst : Fin 8} {o : OptValue} {source : Option (Fin 8)} :
    sourceFor .TRANSFER dst o = some source ↔ ∃ t : Fin 8, o = .present t.val ∧ source = some t ∧ t ≠ dst := by
  cases o with
  | present v =>
    by_cases hv : v < 8
    · by_cases hd : (⟨v, hv⟩ : Fin 8) = dst <;> simp only [sourceFor, dif_pos hv, hd, if_true, if_false] <;>
        simp [Fin.ext_iff] at hd ⊢
      · intro x hx hs
        omega
      · constructor
        · rintro rfl
          exact ⟨⟨v, hv⟩, rfl, rfl, hd⟩
        · rintro ⟨t, rfl, rfl, _⟩
          rfl
    · simp only [sourceFor, dif_neg hv]
      refine ⟨fun h => (nomatch h), fun ⟨t, ht, _⟩ => ?_⟩
      cases ht
      exact absurd t.isLt hv
  | absent => simp [sourceFor]
  | bad => simp [sourceFor]

theorem sourceFor_receipt_iff {dst : Fin 8} {o : OptValue} {source : Option (Fin 8)} :
    sourceFor .RECEIPT dst o = some source ↔ o = .absent ∧ source = none := by
  cases o <;> simp [sourceFor, eq_comm]

theorem targetFor_count_iff {o : OptValue} {target : Option Nat} :
    targetFor .COUNT o = some target ↔ ∃ v, o = .present v ∧ target = some v ∧ 1 ≤ v ∧ v ≤ 200000 := by
  cases o with
  | present v =>
    simp only [targetFor, within_iff, Option.ite_none_right_eq_some, Option.some.injEq, OptValue.present.injEq]
    constructor
    · rintro ⟨⟨hlo, hhi⟩, rfl⟩
      exact ⟨v, rfl, rfl, hlo, hhi⟩
    · rintro ⟨_, rfl, rfl, hlo, hhi⟩
      exact ⟨⟨hlo, hhi⟩, rfl⟩
  | absent => simp [targetFor]
  | bad => simp [targetFor]

theorem targetFor_freeRun_iff {o : OptValue} {target : Option Nat} :
    targetFor .FREE_RUN o = some target ↔ o = .absent ∧ target = none := by
  cases o <;> simp [targetFor, eq_comm]

theorem pumpAt_iff {line address : Byte} {n : NodeRef} : s.pumpAt line address = some n ↔
    line = BitVec.ofNat 8 n.line.ctorIdx ∧ n.address = address.toNat ∧ ∃ e, s.entryAt n = some e ∧ e.bound = .pump := by
  rw [← lineOf_iff]
  cases hl : lineOf line with
  | none => simp [State.pumpAt, hl]
  | some l =>
    cases he : s.entryAt { line := l, address := address.toNat } with
    | none =>
      simp only [State.pumpAt, hl, he, Option.some.injEq]
      refine ⟨fun h => (nomatch h), fun ⟨hline, ha, e, hn, _⟩ => ?_⟩
      rw [hline, ← ha, hn] at he
      cases he
    | some e =>
      by_cases hb : e.bound = .pump
      · simp only [State.pumpAt, hl, he, hb, if_true, Option.some.injEq]
        constructor
        · rintro rfl
          exact ⟨rfl, rfl, e, he, hb⟩
        · rintro ⟨rfl, ha, _⟩
          rw [← ha]
      · simp only [State.pumpAt, hl, he, hb, if_false, Option.some.injEq]
        refine ⟨fun h => (nomatch h), fun ⟨hline, ha, e', hn, hb'⟩ => ?_⟩
        rw [hline, ← ha, hn] at he
        cases he
        exact absurd hb' hb

/-- R140, check 2: a start is found exactly where each of its parts is. -/
theorem startOf_parts {dst : Fin 8} {m : Fin 16} {r : MovementParams} {x : Start} : s.startOf dst m r = some x ↔
    (movementKindOf r.kind = some x.kind ∧ movementModeOf r.mode = some x.mode
      ∧ s.pumpAt r.pumpLine r.pumpAddress = some x.pump)
    ∧ (sourceFor x.kind dst (readOpt r.source) = some x.source ∧ targetFor x.mode (readOpt r.target) = some x.target)
    ∧ (s.tankUsed x.source = true ∧ s.tanks[dst].used = true ∧ s.meters[m].used = true
      ∧ s.meters[m].cfg.kind = meterKindFor x.kind)
    ∧ x.destination = dst ∧ x.meter = m := by
  constructor
  · intro h
    unfold State.startOf at h
    split at h
    · next k mode pump hk hmode hpump =>
      split at h
      · next source target hsource htarget =>
        split at h
        · next hused =>
          cases h
          simp only [Bool.and_eq_true, decide_eq_true_eq] at hused
          obtain ⟨⟨⟨hsrc, hdst⟩, hm⟩, hkind⟩ := hused
          exact ⟨⟨hk, hmode, hpump⟩, ⟨hsource, htarget⟩, ⟨hsrc, hdst, hm, hkind⟩, rfl, rfl⟩
        · cases h
      · cases h
    · cases h
  · rintro ⟨⟨hk, hmode, hpump⟩, ⟨hsource, htarget⟩, ⟨hsrc, hdst, hm, hkind⟩, rfl, rfl⟩
    simp only [State.startOf, hk, hmode, hpump, hsource, htarget, hsrc, hdst, hm, hkind]
    rfl

theorem tankUsed_iff {t : Option (Fin 8)} : s.tankUsed t = true ↔ ∀ i, t = some i → s.tanks[i].used = true := by
  cases t <;> simp [State.tankUsed]

theorem startOf_iff {dst : Fin 8} {m : Fin 16} {r : MovementParams} {x : Start} : s.startOf dst m r = some x ↔
    x.destination = dst ∧ x.meter = m
    ∧ r.kind = BitVec.ofNat 8 x.kind.ctorIdx ∧ r.mode = BitVec.ofNat 8 x.mode.ctorIdx
    ∧ (x.kind = .TRANSFER → r.source.presence = 1 ∧ ∃ t : Fin 8, x.source = some t ∧ r.source.value.toNat = t.val ∧ t ≠ dst)
    ∧ (x.kind = .RECEIPT → r.source.presence = 0 ∧ x.source = none)
    ∧ (x.mode = .COUNT → r.target.presence = 1 ∧ x.target = some r.target.value.toNat
      ∧ 1 ≤ r.target.value.toNat ∧ r.target.value.toNat ≤ 200000)
    ∧ (x.mode = .FREE_RUN → r.target.presence = 0 ∧ x.target = none)
    ∧ r.pumpLine = BitVec.ofNat 8 x.pump.line.ctorIdx ∧ x.pump.address = r.pumpAddress.toNat
    ∧ (∃ e, s.entryAt x.pump = some e ∧ e.bound = .pump)
    ∧ s.tanks[dst].used = true ∧ (∀ t, x.source = some t → s.tanks[t].used = true)
    ∧ s.meters[m].used = true ∧ (x.kind = .TRANSFER → s.meters[m].cfg.kind = .TRANSFER)
    ∧ (x.kind = .RECEIPT → s.meters[m].cfg.kind = .RECEIPT) := by
  have hsource : sourceFor x.kind dst (readOpt r.source) = some x.source ↔
      (x.kind = .TRANSFER → r.source.presence = 1
        ∧ ∃ t : Fin 8, x.source = some t ∧ r.source.value.toNat = t.val ∧ t ≠ dst)
      ∧ (x.kind = .RECEIPT → r.source.presence = 0 ∧ x.source = none) := by
    cases x.kind with
    | TRANSFER =>
      simp only [sourceFor_transfer_iff, readOpt_present_iff]
      grind
    | RECEIPT => simp only [sourceFor_receipt_iff, readOpt_absent_iff, reduceCtorEq, false_imp_iff, true_and, true_imp_iff]
  have htarget : targetFor x.mode (readOpt r.target) = some x.target ↔
      (x.mode = .COUNT → r.target.presence = 1 ∧ x.target = some r.target.value.toNat
        ∧ 1 ≤ r.target.value.toNat ∧ r.target.value.toNat ≤ 200000)
      ∧ (x.mode = .FREE_RUN → r.target.presence = 0 ∧ x.target = none) := by
    cases x.mode with
    | COUNT =>
      simp only [targetFor_count_iff, readOpt_present_iff]
      grind
    | FREE_RUN => simp only [targetFor_freeRun_iff, readOpt_absent_iff, reduceCtorEq, false_imp_iff, true_and, true_imp_iff]
  have hkind : s.meters[m].cfg.kind = meterKindFor x.kind ↔
      (x.kind = .TRANSFER → s.meters[m].cfg.kind = .TRANSFER) ∧ (x.kind = .RECEIPT → s.meters[m].cfg.kind = .RECEIPT) := by
    cases x.kind <;> simp [meterKindFor]
  rw [startOf_parts, movementKindOf_iff, movementModeOf_iff, pumpAt_iff, hsource, htarget, hkind, tankUsed_iff]
  grind

/-! ## The checks (R140, checks 3 to 7) -/

section
variable {c : Fin 2} {dst : Fin 8} {m : Fin 16} {x : Start} {o : Channel}

theorem claimsAny_iff (hd : x.destination = dst) (hm : x.meter = m) : o.claimsAny x = true ↔
    o.state ≠ .IDLE ∧ (o.destination = some dst ∨ o.source = some dst
      ∨ (x.source ≠ none ∧ (o.destination = x.source ∨ o.source = x.source)) ∨ o.meter = some m ∨ o.pump = some x.pump) := by
  subst hd hm
  cases hsource : x.source with
  | none =>
    simp only [Channel.claimsAny, Channel.claimsTank, Channel.claimsMeter, Channel.claimsPump, Channel.isOpen, hsource,
      Bool.or_eq_true, Bool.and_eq_true, decide_eq_true_eq, Bool.false_eq_true]
    grind
  | some t =>
    simp only [Channel.claimsAny, Channel.claimsTank, Channel.claimsMeter, Channel.claimsPump, Channel.isOpen, hsource,
      Bool.or_eq_true, Bool.and_eq_true, decide_eq_true_eq]
    grind

theorem openChannels_other (hc : s.channels[c].state = .IDLE) (ho : o = s.channels[otherChannel c]) :
    s.openChannels = if o.state = .IDLE then 0 else 1 := by
  have hclosed : s.channels[c].isOpen.toNat = 0 := by simp only [Channel.isOpen, hc]; rfl
  have hother : o.isOpen.toNat = if o.state = .IDLE then 0 else 1 := by
    by_cases h : o.state = .IDLE <;> simp [Channel.isOpen, h]
  rw [← hother, ho, openChannels_eq]
  rcases Fin.exists_fin_two.mp ⟨c, rfl⟩ with rfl | rfl
  · rw [hclosed, Nat.zero_add]
    rfl
  · rw [hclosed, Nat.add_zero]
    rfl

theorem sourceLow_iff : s.sourceLow x = true ↔
    ∃ t, x.source = some t ∧ (s.tanks[t].state = some .RESERVE ∨ s.tanks[t].state = some .EMPTY) := by
  cases hsource : x.source <;> simp [State.sourceLow, hsource]

theorem noRoom_iff {room : Int} (hd : x.destination = dst)
    (hroom : room = max 0 (min ((s.tanks[dst].cfg.capacity : Int) * 1000)
      ((s.tanks[dst].cfg.capacity : Int) * 1000 - s.tanks[dst].account.book))) :
    s.noRoom x = true ↔
      s.tanks[dst].state = some .HIGH ∨ ∃ l : Nat, x.target = some l ∧ room < (l : Int) * 1000 := by
  subst hd hroom
  cases htarget : x.target <;> simp [State.noRoom, htarget, Tank.ullage, clampInt, litres]

theorem nodeStateAt_iff {n : Option NodeRef} {st : NodeState} (h : st ≠ .UNHEARD) :
    s.nodeStateAt n = st ↔ ∃ r e, n = some r ∧ s.entryAt r = some e ∧ e.state = st := by
  cases n with
  | none => simp [State.nodeStateAt, h.symm]
  | some r => cases he : s.entryAt r <;> simp [State.nodeStateAt, he, h.symm]

theorem available_states {st : NodeState} : available st = true ↔ st = .ONLINE ∨ st = .SUSPECT := by
  cases st <;> simp [available]

theorem nodesReady_iff (hm : x.meter = m) : s.nodesReady x = true ↔
    (∃ e, s.entryAt x.pump = some e ∧ e.state = .ONLINE)
      ∧ ∃ n e, s.meters[m].node = some n ∧ s.entryAt n = some e ∧ (e.state = .ONLINE ∨ e.state = .SUSPECT) := by
  subst hm
  rw [State.nodesReady, Bool.and_eq_true, decide_eq_true_eq, available_states,
    nodeStateAt_iff (by decide), nodeStateAt_iff (by decide), nodeStateAt_iff (by decide)]
  grind

end

/-! ## The request (R139 to R141) -/

theorem startMovement_at {dst : Fin 8} {m : Fin 16} {r : MovementParams} (c : Fin 2) (hrun : s.running = true)
    (hdst : r.destination = BitVec.ofNat 8 dst.val) (hm : r.meter = BitVec.ofNat 8 m.val)
    (hsource : r.source.presence = 1 → r.source.value.toNat < 8) :
    decideStartMovement .E (BitVec.ofNat 8 c.val) r s = startChecks c dst m r s := by
  have hrange : sourceInRange (readOpt r.source) = true := by
    cases ho : readOpt r.source with
    | present v =>
      obtain ⟨hp, rfl⟩ := readOpt_present_iff.mp ho
      exact decide_eq_true (hsource hp)
    | absent => rfl
    | bad => rfl
  refine (fuelEntry_at (by decide) c _ hrun).trans ?_
  rw [hdst, hm, orElse_some (indexOf_fin (by decide) dst), orElse_some (indexOf_fin (by decide) m), require, if_pos hrange]

theorem indexOf_cases (n : Nat) (b : Byte) : n ≤ b.toNat ∨ ∃ i : Fin n, indexOf n b = some i :=
  (Nat.lt_or_ge b.toNat n).elim (fun h => .inr ⟨_, indexOf_lt h⟩) .inl

theorem startMovement_beyond {channel : Byte} {r : MovementParams} (hrun : s.running = true)
    (h : 2 ≤ channel.toNat ∨ 8 ≤ r.destination.toNat ∨ 16 ≤ r.meter.toNat
      ∨ (r.source.presence = 1 ∧ 8 ≤ r.source.value.toNat)) :
    decideStartMovement .E channel r s = answer .BAD_INDEX s := by
  rcases indexOf_cases 2 channel with hchannel | ⟨c, hc⟩
  · exact fuelEntry_beyond hchannel _ hrun
  refine (congrFun (congrArg _ (congrArg _ (orElse_some hc))) s).trans ((inRunning_on _ hrun).trans ?_)
  rcases indexOf_cases 8 r.destination with hdst | ⟨dst, hdst⟩
  · rw [orElse_none (indexOf_ge hdst)]
  rw [orElse_some hdst]
  rcases indexOf_cases 16 r.meter with hm | ⟨m, hm⟩
  · rw [orElse_none (indexOf_ge hm)]
  obtain ⟨hp, hv⟩ := ((h.resolve_left (Nat.not_le.mpr (indexOf_some_lt hc))).resolve_left
    (Nat.not_le.mpr (indexOf_some_lt hdst))).resolve_left (Nat.not_le.mpr (indexOf_some_lt hm))
  rw [orElse_some hm, readOpt_one hp, require, if_neg (by simpa [sourceInRange] using hv)]

section
variable {c : Fin 2} {dst : Fin 8} {m : Fin 16} {r : MovementParams} {x : Start}

theorem startChecks_busy (h : s.channels[c].state ≠ .IDLE) : startChecks c dst m r s = answer .CHANNEL_BUSY s :=
  if_pos (decide_eq_true h)

theorem startChecks_bad (hc : s.channels[c].state = .IDLE) (h : s.startOf dst m r = none) :
    startChecks c dst m r s = answer .BAD_VALUE s := by
  have hopen : s.channels[c].isOpen = false := decide_eq_false (not_not.mpr hc)
  simp only [startChecks, hopen, h]
  rfl

theorem startChecks_of (hc : s.channels[c].state = .IDLE) (h : s.startOf dst m r = some x) :
    startChecks c dst m r s =
      if s.channels[otherChannel c].claimsAny x then answer .CLAIMED s
      else if 16 ≤ s.records.length + s.openChannels then answer .LIST_FULL s
      else if s.sourceLow x then answer .SOURCE_LOW s
      else if s.noRoom x then answer .NO_ROOM s
      else if !s.nodesReady x then answer .NODE_UNAVAILABLE s
      else acceptStart c x s := by
  have hopen : s.channels[c].isOpen = false := decide_eq_false (not_not.mpr hc)
  simp only [startChecks, hopen, h]
  rfl

end

/-- Settles O44. -/
theorem startMovement : Obligations.StartMovement := by
  unfold Obligations.StartMovement
  refine ⟨fun tag channel r s hr hrun h => exec_answer rfl hr (startMovement_beyond hrun h),
    fun tag c dst m r s o hr hrun hdst hm hsource ho => ⟨fun hbusy => ?_, fun hidle => ⟨fun hnone => ?_, ?_⟩⟩,
    fun s dst m r x => startOf_iff⟩
  · exact exec_answer rfl hr ((startMovement_at c hrun hdst hm hsource).trans (startChecks_busy hbusy))
  · exact exec_answer rfl hr ((startMovement_at c hrun hdst hm hsource).trans (startChecks_bad hidle hnone))
  · intro x claimed low noRoom ready room hx hclaimed hlow hroom hnoRoom hready
    obtain ⟨hxd, hxm, -⟩ := startOf_iff.mp hx
    have hact := (startMovement_at c hrun hdst hm hsource).trans (startChecks_of hidle hx)
    rw [← ho, openChannels_other hidle ho] at hact
    replace hclaimed : o.claimsAny x = true ↔ claimed := by rw [claimsAny_iff hxd hxm, hclaimed]
    replace hlow : s.sourceLow x = true ↔ low := by rw [sourceLow_iff, hlow]
    replace hnoRoom : s.noRoom x = true ↔ noRoom := by rw [noRoom_iff hxd hroom, hnoRoom]
    replace hready : s.nodesReady x = true ↔ ready := by rw [nodesReady_iff hxm, hready]
    refine ⟨fun h => ?_, fun h hfull => ?_, fun h hspace => ?_⟩
    · rw [if_pos (hclaimed.mpr h)] at hact
      exact exec_answer rfl hr hact
    · rw [if_neg (mt hclaimed.mp h), if_pos hfull] at hact
      exact exec_answer rfl hr hact
    · rw [if_neg (mt hclaimed.mp h), if_neg (Nat.not_le.mpr hspace)] at hact
      refine ⟨fun hl => ?_, fun hl hn => ?_, fun hl hn hno => ?_, fun hl hn hyes => ?_⟩
      · rw [if_pos (hlow.mpr hl)] at hact
        exact exec_answer rfl hr hact
      · rw [if_neg (mt hlow.mp hl), if_pos (hnoRoom.mpr hn)] at hact
        exact exec_answer rfl hr hact
      · rw [if_neg (mt hlow.mp hl), if_neg (mt hnoRoom.mp hn),
          if_pos (by rw [Bool.not_eq_true', Bool.eq_false_iff]; exact mt hready.mp hno)] at hact
        exact exec_answer rfl hr hact
      · rw [if_neg (mt hlow.mp hl), if_neg (mt hnoRoom.mp hn),
          if_neg (by rw [Bool.not_eq_true', Bool.eq_false_iff]; exact not_not.mpr (hready.mpr hyes)),
          acceptStart, Channel.started, hxd, hxm] at hact
        exact exec_answer rfl hr hact

end Sys2Proof.Machine
end


section
/-! SUPPORT. Polls of a field line, their transmission, and the restart of a line (O47). -/

namespace Sys2Proof.Machine

open Sys2Proof

variable {s : State} {c : LineCtl}

/-! ## When a transmission begins (R162) -/

theorem characterSince_none_iff {r : LineReceiver} :
    r.characterSince = none ↔ ∀ t x up, r = .sampling t x up → majority x.start = true := by
  cases r with
  | searching => simp [LineReceiver.characterSince]
  | waitingHigh => simp [LineReceiver.characterSince]
  | sampling since x risen => cases hx : majority x.start <;> simp [LineReceiver.characterSince, hx]

theorem quietInTime_true_iff {since : Nat} : c.quietInTime since = true ↔
    (∀ t x up, c.receiver = .sampling t x up → majority x.start = true) ∧ c.quietFrom since ≤ since + ms 10 := by
  rw [LineCtl.quietInTime, Bool.and_eq_true, Option.isNone_iff_eq_none, characterSince_none_iff, decide_eq_true_eq]

theorem transmitAt_due {since : Nat} (h : c.link = .due since) :
    c.transmitAt = if c.quietInTime since then some (c.quietFrom since) else none := by
  simp only [LineCtl.transmitAt, h]

theorem giveUpAt_due {since : Nat} (h : c.link = .due since) :
    c.giveUpAt = if c.quietInTime since then none else some (since + ms 10) := by
  simp only [LineCtl.giveUpAt, h]

theorem no_transmission (h : ∀ since, c.link ≠ .due since) : c.transmitAt = none ∧ c.giveUpAt = none := by
  cases hl : c.link with
  | due since => exact absurd hl (h since)
  | _ => simp [LineCtl.transmitAt, LineCtl.giveUpAt, hl]

theorem exec_pollTransmit (l : Line) {t : Nat} (h : s.inReset = false) (ht : (s.line l).transmitAt = some t) :
    exec (.pollTransmit l) s = .next ((s.reach t).transmit l) := by
  rw [exec, execPollTransmit, live_awake h, ht, onExpiry_some]

theorem exec_quietWait (l : Line) {t : Nat} (h : s.inReset = false) (ht : (s.line l).giveUpAt = some t) :
    exec (.quietWaitTimeout l) s = .next ((s.reach t).transmit l) := by
  rw [exec, execQuietWaitTimeout, live_awake h, ht, onExpiry_some]

theorem exec_pollTransmit_none (l : Line) (h : (s.line l).transmitAt = none) : exec (.pollTransmit l) s = .next s :=
  exec_absent (d := fun s => (s.line l).transmitAt) h

theorem exec_quietWait_none (l : Line) (h : (s.line l).giveUpAt = none) : exec (.quietWaitTimeout l) s = .next s :=
  exec_absent (d := fun s => (s.line l).giveUpAt) h

/-! ## What is sent (R154, R159) -/

theorem pollChars_length (e : NodeEntry) (a : Attempt) (payload : List Byte) :
    (pollChars e a payload).length = payload.length + 3 := by
  simp [pollChars]

theorem kindChar_eq (b : Bound) (a : Attempt) :
    kindChar b a = BitVec.ofNat 8 (b.kind + 1 + if a = .RETRY then 128 else 0) := by
  cases a <;> rfl

theorem pollChars_bytes {e : NodeEntry} {a : Attempt} {payload bytes : List Byte}
    (h : bytes = [BitVec.ofNat 8 e.address, BitVec.ofNat 8 (e.bound.kind + 1 + if a = .RETRY then 128 else 0)] ++ payload) :
    (pollChars e a payload).map TxChar.data = bytes ++ [crc8 bytes]
      ∧ (pollChars e a payload).map TxChar.mark = true :: List.replicate (payload.length + 2) false := by
  subst h
  rw [← kindChar_eq]
  constructor
  · simp [pollChars, Function.comp_def]
  · simp [pollChars, Function.comp_def, List.replicate_succ, ← List.replicate_succ']

theorem bits_eq (x : TxChar) : ∃ b0 b1 b2 b3 b4 b5 b6 b7 : Bool,
    x.bits = [false, b0, b1, b2, b3, b4, b5, b6, b7, x.mark, true]
      ∧ [b0, b1, b2, b3, b4, b5, b6, b7] = (List.range 8).map x.data.getLsbD :=
  ⟨_, _, _, _, _, _, _, _, rfl, rfl⟩

theorem bits_length (x : TxChar) : x.bits.length = 11 := rfl

/-- R154: the level of the output from the place of the moment in the characters sent. -/
theorem level_at {sent : List TxChar} {start now n k : Nat} {x : TxChar} (hx : sent[n]? = some x) (hk : k < 11)
    (h1 : start + n * 440 + k * 40 ≤ now) (h2 : now < start + n * 440 + (k + 1) * 40) :
    (sent.flatMap TxChar.bits).getD ((now - start) / bitTime) true = x.bits.getD k true := by
  have hplace : (now - start) / bitTime = n * 11 + k := div_of_within (by rw [bitTime]; omega) (by rw [bitTime]; omega)
  rw [hplace, getD_flatMap_block bits_length hk _ x hx]

theorem txLevel_idle {now : Nat} (h : c.driverEnabled = false) : c.txLevel now = true := by
  cases hl : c.link with
  | sending start stop => simp [LineCtl.driverEnabled, hl] at h
  | stopping start stop since => simp [LineCtl.driverEnabled, hl] at h
  | _ => simp [LineCtl.txLevel, hl]

theorem txLevel_sending {now start stop : Nat} (h : c.link = .sending start stop) :
    c.txLevel now = (c.sent.flatMap TxChar.bits).getD ((now - start) / bitTime) true := by
  simp only [LineCtl.txLevel, h]

theorem txLevel_stopping {now start stop since : Nat} (h : c.link = .stopping start stop since) :
    c.txLevel now = (decide (stop ≤ now) || (c.sent.flatMap TxChar.bits).getD ((now - start) / bitTime) true) := by
  simp only [LineCtl.txLevel, h]

theorem transmit_at {l : Line} {i : Fin 32} {e : NodeEntry} (hc : c = s.line l) (hi : c.cursor = some i)
    (he : c.nodes[i] = some e) :
    s.transmit l = s.setLine l (c.send s.now i e (if c.attempt = some .FIRST then .RETRY else .FIRST)
      (if c.attempt = some .FIRST then c.payload else s.payloadFor l e)) := by
  subst hc
  simp only [State.transmit, hi, he]
  split_ifs <;> rfl

theorem gearLineCode_eq (g : Gear) : gearLineCode g = if g = .NEUTRAL then 0 else if g = .AHEAD then 1 else 2 := by
  cases g <;> rfl

theorem pumpRuns_iff {n : NodeRef} : s.pumpRuns n = true ↔ s.channels[(0 : Fin 2)].state = .RUNNING
    ∧ s.channels[(0 : Fin 2)].pump = some n ∨ s.channels[(1 : Fin 2)].state = .RUNNING
    ∧ s.channels[(1 : Fin 2)].pump = some n := by
  simp only [State.pumpRuns, List.any_eq_true, Vector.mem_toList_iff, Vector.mem_iff_getElem, Bool.and_eq_true,
    decide_eq_true_eq]
  constructor
  · rintro ⟨x, ⟨k, hk, rfl⟩, h⟩
    match k, hk with
    | 0, _ => exact .inl h
    | 1, _ => exact .inr h
  · rintro (h | h)
    · exact ⟨_, ⟨0, by decide, rfl⟩, h⟩
    · exact ⟨_, ⟨1, by decide, rfl⟩, h⟩

theorem payloadFor_pump {l : Line} {e : NodeEntry} (h : e.bound = .pump) :
    s.payloadFor l e = [if s.channels[(0 : Fin 2)].state = .RUNNING
      ∧ s.channels[(0 : Fin 2)].pump = some { line := l, address := e.address } ∨ s.channels[(1 : Fin 2)].state = .RUNNING
      ∧ s.channels[(1 : Fin 2)].pump = some { line := l, address := e.address } then 1 else 0] := by
  simp only [State.payloadFor, h, flag, pumpRuns_iff]

/-! ## The end of a transmission (R154, R160, R167) -/

theorem exec_transmissionEnd (l : Line) {t : Nat} (h : s.inReset = false) (ht : (s.line l).transmissionEndsAt = some t) :
    exec (.pollTransmissionEnd l) s = .next ((s.reach t).setLine l ((s.line l).endTransmission t)) := by
  rw [exec, execPollTransmissionEnd, live_awake h, ht, onExpiry_some]
  rfl

theorem endsAt_sending {start stop : Nat} (h : c.link = .sending start stop) : c.transmissionEndsAt = some stop := by
  simp only [LineCtl.transmissionEndsAt, h]

theorem endsAt_stopping {start stop since : Nat} (h : c.link = .stopping start stop since) :
    c.transmissionEndsAt = some stop := by
  simp only [LineCtl.transmissionEndsAt, h]

theorem endsAt_other (h1 : ∀ start stop, c.link ≠ .sending start stop)
    (h2 : ∀ start stop since, c.link ≠ .stopping start stop since) : c.transmissionEndsAt = none := by
  cases hl : c.link with
  | sending start stop => exact absurd hl (h1 start stop)
  | stopping start stop since => exact absurd hl (h2 start stop since)
  | _ => simp [LineCtl.transmissionEndsAt, hl]

theorem endTransmission_sending {t start stop : Nat} (h : c.link = .sending start stop) :
    c.endTransmission t = { c with link := .window (t + ms 5) true .waiting } := by
  simp only [LineCtl.endTransmission, h]

theorem endTransmission_stopping {t start stop since : Nat} (h : c.link = .stopping start stop since) :
    c.endTransmission t = { c with link := if c.activity = .POLLING then .due since else .idle } := by
  simp only [LineCtl.endTransmission, h]

/-! ## Restart (R167) -/

theorem entries_isEmpty_iff : c.isEmpty = true ↔ ∀ i : Fin 32, c.nodes[i] = none := by
  simp only [LineCtl.isEmpty, LineCtl.entries, List.isEmpty_iff, List.filterMap_eq_nil_iff, List.mem_finRange,
    true_imp_iff, Option.map_eq_none_iff]

theorem heard_isEmpty_iff : (!c.heard.isEmpty) = true ↔
    ∃ j : Fin 32, (c.nodes[j].any fun e => decide (e.state ≠ .UNHEARD)) = true := by
  rw [Bool.not_eq_true', List.isEmpty_eq_false_iff_exists_mem]
  simp only [LineCtl.heard, LineCtl.entries, List.mem_filter, List.mem_filterMap, List.mem_finRange, true_and,
    Option.map_eq_some_iff, Option.any_eq_true]
  constructor
  · rintro ⟨_, ⟨i, e, he, rfl⟩, hst⟩
    exact ⟨i, e, he, hst⟩
  · rintro ⟨i, e, he, hst⟩
    exact ⟨(i, e), ⟨i, e, he, rfl⟩, hst⟩

/-- A list made entry by entry from those that pass a test. -/
theorem flatMap_heard {α : Type} {g : Fin 32 × NodeEntry → List α} {h : Fin 32 → List α}
    (hnone : ∀ i, c.nodes[i] = none → h i = [])
    (hsome : ∀ i e, c.nodes[i] = some e → h i = if e.state = .UNHEARD then [] else g (i, e)) :
    c.heard.flatMap g = (List.finRange 32).flatMap h := by
  rw [LineCtl.heard, LineCtl.entries]
  induction List.finRange 32 with
  | nil => rfl
  | cons i l ih =>
    cases he : c.nodes[i] with
    | none => simp only [List.filterMap_cons, he, Option.map_none, List.flatMap_cons, hnone i he, List.nil_append, ih]
    | some e =>
      simp only [List.filterMap_cons, he, Option.map_some, List.flatMap_cons, hsome i e he]
      by_cases hu : e.state = .UNHEARD
      · rw [if_pos hu, List.filter_cons_of_neg (by simpa using hu), ih, List.nil_append]
      · rw [if_neg hu, List.filter_cons_of_pos (by simpa using hu), List.flatMap_cons, ih]

/-- R158: whether a round polls a position. -/
def LineCtl.polls (c : LineCtl) (i : Fin 32) : Bool := c.nodes[i].any fun e => e.visited c.round

theorem nextIn_eq (start : Nat) :
    c.nextIn start = (List.finRange 32).find? fun i => decide (start ≤ i.val) && c.polls i := by
  rw [LineCtl.nextIn]
  congr 1
  funext i
  rw [LineCtl.polls]
  cases c.nodes[i] <;> rfl

theorem nextIn_some_iff {start : Nat} {i : Fin 32} : c.nextIn start = some i ↔
    (start ≤ i.val ∧ c.polls i = true) ∧ ∀ j < i, start ≤ j.val → c.polls j = false := by
  rw [nextIn_eq, ← Fin.find?_eq_find?_finRange, Fin.find?_eq_some_iff]
  simp only [Bool.and_eq_true, decide_eq_true_eq, Bool.and_eq_false_imp]

theorem nextIn_none_iff {start : Nat} : c.nextIn start = none ↔ ∀ j : Fin 32, start ≤ j.val → c.polls j = false := by
  rw [nextIn_eq, ← Fin.find?_eq_find?_finRange, Fin.find?_eq_none_iff]
  simp only [Bool.and_eq_false_imp, decide_eq_true_eq]

/-- R158: round 0 polls every entry. -/
theorem polls_unheard (j : Fin 32) : { c.unhear with round := 0 }.polls j = c.nodes[j].isSome := by
  have hnode : { c.unhear with round := 0 }.nodes[j] = c.nodes[j].map fun e => { e with state := .UNHEARD, failures := 0 } := by
    simp only [LineCtl.unhear, slot_ofFn]
  rw [LineCtl.polls, hnode]
  cases c.nodes[j] <;> rfl

theorem beginRounds_cursor {i : Fin 32} (hi : c.nodes[i] ≠ none) (hfirst : ∀ j < i, c.nodes[j] = none) :
    c.unhear.beginRounds = { c.unhear with round := 0, cursor := some i } := by
  have hnext : { c.unhear with round := 0 }.nextIn 0 = some i := by
    refine nextIn_some_iff.mpr ⟨⟨Nat.zero_le _, ?_⟩, fun j hj _ => ?_⟩
    · rw [polls_unheard, Option.isSome_iff_ne_none]
      exact hi
    · rw [polls_unheard, hfirst j hj]
      rfl
  rw [LineCtl.beginRounds, hnext]

theorem restartLine_empty {l : Line} (h : ∀ i : Fin 32, (s.line l).nodes[i] = none) : s.restartLine l = s :=
  if_pos (entries_isEmpty_iff.mpr h)

theorem restartLine_listed {l : Line} {i : Fin 32} {link : Link} {h : Fin 32 → List Instr} (hc : c = s.line l)
    (hi : c.nodes[i] ≠ none) (hfirst : ∀ j < i, c.nodes[j] = none) (hlink : (c.abandon s.now).link = link)
    (hnone : ∀ j, c.nodes[j] = none → h j = [])
    (hsome : ∀ j e, c.nodes[j] = some e → h j = if e.state = .UNHEARD then [] else stateHandovers l e .UNHEARD) :
    s.restartLine l = State.postIf
      (decide (∃ j : Fin 32, (c.nodes[j].any fun e => decide (e.state ≠ .UNHEARD)) = true)) .NODE_CHANGED
      (s.setLine l { c with
        nodes := Vector.ofFn fun j : Fin 32 => c.nodes[j].map fun e => { e with state := .UNHEARD, failures := 0 }
        round := 0, position := none, attempt := none, cursor := some i, lateTail := none
        link := link
        handovers := c.handovers ++ (List.finRange 32).flatMap h }) := by
  subst hc hlink
  have hempty : ¬(s.line l).isEmpty = true := fun hempty => hi (entries_isEmpty_iff.mp hempty i)
  have hheard : (!(s.line l).heard.isEmpty) =
      decide (∃ j : Fin 32, ((s.line l).nodes[j].any fun e => decide (e.state ≠ .UNHEARD)) = true) := by
    rw [Bool.eq_iff_iff, heard_isEmpty_iff, decide_eq_true_eq]
  have hhand := flatMap_heard (g := fun x => stateHandovers l x.2 .UNHEARD) hnone hsome
  have hrounds := beginRounds_cursor (c := (s.line l).abandon s.now) hi hfirst
  rw [State.restartLine, if_neg hempty]
  rw [hheard, hhand, hrounds]
  dsimp only [LineCtl.unhear, LineCtl.abandon]

theorem restartLine_at (l : Line) : decideRestartLine (BitVec.ofNat 8 l.ctorIdx) = inRunning (doneWith (State.restartLine l)) := by
  rw [decideRestartLine, orElse_some (lineOf_code l)]

/-- Settles O47: the time a poll is sent, its characters and its level, its end, and the restart of a line. -/
theorem linePollsAndRestart : Obligations.LinePollsAndRestart := by
  unfold Obligations.LinePollsAndRestart
  refine ⟨⟨fun l since quiet inTime s h hlink hquiet hinTime => ?due, fun l s hno => ?notDue, fun l i e s c a payload hc hi he ha hp => ?sent,
    fun e a payload bytes h => pollChars_bytes h, bits_eq, fun c now => ⟨txLevel_idle, ?sending⟩, ?stopping, ?payload, ?ends⟩,
    fun p tag l s hr => ⟨fun hrun => ?_, fun hrun => ?_⟩, fun p tag line s hr hge => ?_,
    fun l s c hc => ⟨fun hnone => restartLine_empty (hc ▸ hnone), fun i hi hfirst => ?_⟩⟩
  case due =>
    have hfrom : (s.line l).quietFrom since = quiet := hquiet.symm
    have hiff : (s.line l).quietInTime since = true ↔ inTime := by rw [quietInTime_true_iff, hfrom, hinTime]
    have hsend := transmitAt_due hlink
    have hwait := giveUpAt_due hlink
    refine ⟨fun hin => ?_, fun hout => ?_⟩
    · rw [if_pos (hiff.mpr hin), hfrom] at hsend
      rw [if_pos (hiff.mpr hin)] at hwait
      exact ⟨exec_pollTransmit l h hsend, exec_quietWait_none l hwait⟩
    · rw [if_neg (mt hiff.mp hout)] at hsend hwait
      exact ⟨exec_quietWait l h hwait, exec_pollTransmit_none l hsend⟩
  case notDue =>
    obtain ⟨hsend, hwait⟩ := no_transmission hno
    exact ⟨exec_pollTransmit_none l hsend, exec_quietWait_none l hwait⟩
  case sent =>
    rw [transmit_at hc hi he, LineCtl.send, ← ha, ← hp, pollChars_length]
  case sending =>
    intro start stop n k x hl hx hk h1 h2
    rw [txLevel_sending hl, level_at hx hk h1 h2]
  case stopping =>
    intro c now start stop since hl
    refine ⟨fun hstop => ?_, fun n k x hx hk hnow h1 h2 => ?_⟩
    · rw [txLevel_stopping hl, decide_eq_true hstop, Bool.true_or]
    · rw [txLevel_stopping hl, decide_eq_false (Nat.not_le.mpr hnow), Bool.false_or, level_at hx hk h1 h2]
  case payload =>
    refine fun l e s => ⟨fun i hb => ?_, fun i hb => ?_, fun i hb => ?_, fun i hb => ?_, fun i hb => ?_, payloadFor_pump⟩
    · simp only [State.payloadFor, hb, gearLineCode_eq]
    · simp only [State.payloadFor, hb]
    · simp only [State.payloadFor, hb, WinchCommand.lineCode]
    · simp only [State.payloadFor, hb]
    · simp only [State.payloadFor, hb]
  case ends =>
    refine fun l s h => ⟨fun start stop hl => ?_, fun start stop since hl => ?_, fun h1 h2 => ?_⟩
    · rw [exec_transmissionEnd l h (endsAt_sending hl), endTransmission_sending hl]
      rfl
    · rw [exec_transmissionEnd l h (endsAt_stopping hl), endTransmission_stopping hl]
      rfl
    · exact exec_absent (d := fun s => (s.line l).transmissionEndsAt) (endsAt_other h1 h2)
  · refine exec_answer rfl hr ?_
    rw [restartLine_at, inRunning_on _ ((running_notice p s).trans hrun)]
    rfl
  · refine exec_answer rfl hr ?_
    rw [restartLine_at, inRunning_configuring _ ((running_notice p s).trans hrun)]
    rfl
  · refine exec_answer rfl hr ?_
    rw [decideRestartLine, orElse_none (lineOf_ge hge)]
    rfl
  · refine restartLine_listed hc hi hfirst rfl (fun j hj => ?_) (fun j e hj => ?_)
    · simp only [hj]
    · simp only [hj]

end Sys2Proof.Machine
end


section
/-! SUPPORT. The receiver of a field line and the characters received (O48). -/

namespace Sys2Proof.Machine

open Sys2Proof

variable {s : State} {c : LineCtl} {l : Line}

/-! ## A character from its samples (R155) -/

theorem receiveChar_glitch {x : CharSamples} (h : majority x.start = true) : receiveChar x = none := if_pos h

theorem disagree_iff {y : Samples} : disagree y = true ↔ ¬(y.s1 = y.s2 ∧ y.s2 = y.s3) := by
  simp [disagree, imp_iff_not_or]

theorem receiveChar_low {x : CharSamples} (h : majority x.start = false) : ∃ ch, receiveChar x = some ch
    ∧ (∀ i : Fin 8, ch.data.getLsbD i.val = majority x.data[i]) ∧ ch.mark = majority x.mark
    ∧ ch.framing = !(majority x.stop)
    ∧ (ch.noisy = true ↔ disagree x.start = true ∨ (∃ i : Fin 8, disagree x.data[i] = true) ∨ disagree x.mark = true
      ∨ disagree x.stop = true) := by
  refine ⟨_, if_neg (ne_true_of h), getLsbD_dataByte x.data, rfl, rfl, ?_⟩
  have hdata : x.data.toList.any disagree = true ↔ ∃ i : Fin 8, disagree x.data[i] = true := by
    simp only [List.any_eq_true, Vector.mem_toList_iff, Vector.mem_iff_getElem]
    constructor
    · rintro ⟨y, ⟨k, hk, rfl⟩, hy⟩
      exact ⟨⟨k, hk⟩, hy⟩
    · rintro ⟨i, hi⟩
      exact ⟨_, ⟨i.val, i.isLt, rfl⟩, hi⟩
  simp only [Bool.or_eq_true, hdata, or_assoc]

/-! ## When a reply has ended (R161) -/

theorem inReply_at {i : Fin 32} {e : NodeEntry} {n t : Nat} {o : Bool} {rx : Reception} (hi : c.position = some i)
    (he : c.nodes[i] = some e) (hl : c.link = .window t o rx)
    (hrx : (∃ chars, rx = .reply chars ∧ chars.length = n) ∨ rx = .late n) : c.inReply e n := by
  refine inReply_iff.mpr ⟨t, o, i, (polled_eq_some c i e).mpr ⟨hi, he⟩, hrx.imp ?_ ?_⟩
  · rintro ⟨chars, rfl, hn⟩
    exact ⟨chars, hl, hn⟩
  · rintro rfl
    exact hl

theorem overlong_of_inReply {e : NodeEntry} {n : Nat} (h : c.inReply e n) :
    c.overlong = decide (e.bound.replyLength < n) := by
  obtain ⟨t, o, i, hp, ⟨chars, hl, rfl⟩ | hl⟩ := inReply_iff.mp h
  · simp only [LineCtl.overlong, hp, hl]
  · simp only [LineCtl.overlong, hp, hl]

theorem overlong_of_not_inReply (h : ∀ e n, ¬c.inReply e n) : c.overlong = false := by
  unfold LineCtl.overlong
  split
  · next t o chars i e hl hp => exact absurd (inReply_iff.mpr ⟨t, o, i, hp, .inl ⟨chars, hl, rfl⟩⟩) (h _ _)
  · next t o n i e hl hp => exact absurd (inReply_iff.mpr ⟨t, o, i, hp, .inr hl⟩) (h _ _)
  · rfl

theorem endedBy_of {t now : Nat} (h : c.replyEndsAt = some t) :
    c.endedBy now = if c.overlong ∨ t ≤ now then some t else none := by
  simp only [LineCtl.endedBy, h]

theorem endedBy_none {now : Nat} (h : c.replyEndsAt = none) : c.endedBy now = none := by
  simp only [LineCtl.endedBy, h]

/-- The gap, where nothing has been received beyond the length of a reply. -/
theorem endedBy_gap {now : Nat} (h : c.replyEndsAt = c.gapEndsAt) (hlong : c.overlong = false) : c.endedBy now =
    if c.receiver.characterSince = none ∧ c.lastChar.getD 0 + ms 1 < now then some (c.lastChar.getD 0 + ms 1 + 1)
      else none := by
  cases hs : c.receiver.characterSince with
  | some since =>
    have hnone : c.gapEndsAt = none := if_pos (by rw [hs]; rfl)
    rw [endedBy_none (h.trans hnone), if_neg (fun hno => nomatch hno.1)]
  | none =>
    have hsome : c.gapEndsAt = some c.gapAt := if_neg (by rw [hs]; exact Bool.false_ne_true)
    rw [endedBy_of (h.trans hsome), hlong, LineCtl.gapAt]
    simp only [Bool.false_eq_true, false_or, true_and]
    rfl

theorem endedBy_inReply {e : NodeEntry} {n now : Nat} (h : c.inReply e n) : c.endedBy now =
    if e.bound.replyLength < n then some (c.lastChar.getD 0)
      else if c.receiver.characterSince = none ∧ c.lastChar.getD 0 + ms 1 < now then some (c.lastChar.getD 0 + ms 1 + 1)
      else none := by
  have hends := replyEndsAt_of_inReply h
  have hover := overlong_of_inReply h
  by_cases hlong : e.bound.replyLength < n
  · rw [if_pos hlong] at hends ⊢
    rw [endedBy_of hends, if_pos (.inl (hover.trans (decide_eq_true hlong)))]
  · rw [if_neg hlong] at hends ⊢
    exact endedBy_gap hends (hover.trans (decide_eq_false hlong))

theorem no_reply_of_link (h : ∀ t o rx, c.link ≠ .window t o rx) (e : NodeEntry) (n : Nat) : ¬c.inReply e n := by
  rw [inReply_iff]
  rintro ⟨t, o, i, _, ⟨chars, hl, _⟩ | hl⟩
  · exact h _ _ _ hl
  · exact h _ _ _ hl

theorem no_reply_waiting {t : Nat} {o : Bool} (h : c.link = .window t o .waiting) (e : NodeEntry) (n : Nat) :
    ¬c.inReply e n := by
  rw [inReply_iff]
  rintro ⟨t, o, i, _, ⟨chars, hl, _⟩ | hl⟩ <;> rw [h] at hl <;> cases hl

theorem endedBy_no_tail {now : Nat} (h : ∀ e n, ¬c.inReply e n) (ht : c.lateTail = none) : c.endedBy now = none :=
  endedBy_none ((replyEndsAt_of_not_inReply h).trans (if_neg (by rw [ht]; exact Bool.false_ne_true)))

theorem endedBy_tail {now : Nat} (h : ∀ e n, ¬c.inReply e n) (ht : c.lateTail ≠ none) : c.endedBy now =
    if c.receiver.characterSince = none ∧ c.lastChar.getD 0 + ms 1 < now then some (c.lastChar.getD 0 + ms 1 + 1)
      else none :=
  endedBy_gap ((replyEndsAt_of_not_inReply h).trans (if_pos (Option.isSome_iff_ne_none.mpr ht))) (overlong_of_not_inReply h)

theorem not_window_of_rest (h : c.link = .idle ∨ ∃ due, c.link = .due due) (t : Nat) (o : Bool) (rx : Reception) :
    c.link ≠ .window t o rx := by
  rcases h with h | ⟨due, h⟩ <;> rw [h] <;> exact nofun

/-! ## What began at an edge ends (R155) -/

theorem setLine_setLine (l : Line) (a b : LineCtl) : (s.setLine l a).setLine l b = s.setLine l b := by
  cases l <;> rfl

theorem modLine_modLine (l : Line) (f g : LineCtl → LineCtl) :
    (s.modLine l f).modLine l g = s.setLine l (g (f (s.line l))) := by
  rw [State.modLine, State.modLine, setLine_setLine, line_setLine, if_pos rfl]

section
variable {since : Nat} {x : CharSamples} {up : Bool}

theorem charEnds_glitch (hr : (s.line l).receiver = .sampling since x up) (h : receiveChar x = none) :
    s.charEnds l = s.setLine l { s.line l with receiver := .searching } := by
  have hstart : majority x.start = true := by
    by_contra hlow
    rw [receiveChar, if_neg hlow] at h
    cases h
  simp only [State.charEnds, hr, h, receiverAfter, hstart, Bool.true_or, if_true]
  rfl

theorem modEntry_lastChar (t : Option Nat) (i : Fin 32) (f : NodeEntry → NodeEntry) (c : LineCtl) :
    LineCtl.modEntry i f { c with lastChar := t } = { c.modEntry i f with lastChar := t } := by
  cases h : c.nodes[i] with
  | none => simp only [LineCtl.modEntry, h]
  | some e => simp only [LineCtl.modEntry, h, LineCtl.setEntry]

/-- The end of a character is stored beside what it does. -/
theorem receive_lastChar (t : Option Nat) (ch : RxChar) (c : LineCtl) :
    LineCtl.receive ch { c with lastChar := t } = { c.receive ch with lastChar := t } := by
  have hpolled : { c with lastChar := t }.polled = c.polled := rfl
  simp only [LineCtl.receive, hpolled, modEntry_lastChar, LineCtl.lineStray]
  repeat' split
  all_goals rfl

/-- R155, R160 to R162: a character at its end. -/
theorem charEnds_char {ch : RxChar} {c d : LineCtl} (hc : c = s.line l) (hr : c.receiver = .sampling since x up)
    (h : receiveChar x = some ch) (hd : d = { c with
      receiver := if x.stop.s3 = true ∨ up = true then .searching else .waitingHigh
      lastChar := some (since + 440) }) : s.charEnds l = s.setLine l (d.receive ch) := by
  have hstart : majority x.start = false := by
    rw [Bool.eq_false_iff]
    intro hhigh
    rw [receiveChar_glitch hhigh] at h
    cases h
  have hafter : receiverAfter x up = if x.stop.s3 = true ∨ up = true then .searching else .waitingHigh := by
    simp only [receiverAfter, hstart, Bool.false_or, Bool.or_eq_true]
  subst hc hd
  simp only [State.charEnds, hr, h, State.charIn, modLine_modLine, hafter]
  exact congrArg (s.setLine l) (receive_lastChar (some (since + 440)) ch _).symm

end

/-! ## What a character does (R160 to R162) -/

section
variable {ch : RxChar} {i : Fin 32} {e : NodeEntry} {t : Nat} {o : Bool}

theorem receive_first (hi : c.position = some i) (he : c.nodes[i] = some e) (hl : c.link = .window t true .waiting)
    (h : ch.mark = true ∧ ch.data.toNat = e.address + 128) :
    c.receive ch = { c with link := .window t true (.reply [ch]) } := by
  simp only [LineCtl.receive, hl, (polled_eq_some c i e).mpr ⟨hi, he⟩]
  exact if_pos h

theorem receive_stray (hi : c.position = some i) (he : c.nodes[i] = some e) (hl : c.link = .window t true .waiting)
    (h : ¬(ch.mark = true ∧ ch.data.toNat = e.address + 128)) :
    c.receive ch = { c with nodes := c.nodes.set i (some { e with stray := min 65535 (e.stray + 1) }) } := by
  have hmod : c.receive ch = c.modEntry i (NodeEntry.strays 1) := by
    simp only [LineCtl.receive, hl, (polled_eq_some c i e).mpr ⟨hi, he⟩]
    exact if_neg h
  exact hmod.trans (modEntry_some _ he)

theorem otherAttempt_iff {a : Option Attempt} :
    otherAttempt a ch = true ↔ ch.mark = false ∧ ch.data.msb ≠ decide (a = some .RETRY) := by
  simp [otherAttempt]

theorem receive_other {chars : List RxChar} (hi : c.position = some i) (he : c.nodes[i] = some e)
    (hl : c.link = .window t o (.reply chars))
    (h : chars.length = 1 ∧ ch.mark = false ∧ ch.data.msb ≠ decide (c.attempt = some .RETRY)) :
    c.receive ch = { c with
      nodes := c.nodes.set i (some { e with stray := min 65535 (e.stray + 2) })
      link := .window t o (.late 2) } := by
  simp only [LineCtl.receive, hl, (polled_eq_some c i e).mpr ⟨hi, he⟩, otherAttempt_iff, modEntry_some _ he]
  exact if_pos h

theorem receive_next {chars : List RxChar} (hi : c.position = some i) (he : c.nodes[i] = some e)
    (hl : c.link = .window t o (.reply chars))
    (h : ¬(chars.length = 1 ∧ ch.mark = false ∧ ch.data.msb ≠ decide (c.attempt = some .RETRY))) :
    c.receive ch = { c with link := .window t o (.reply (chars ++ [ch])) } := by
  simp only [LineCtl.receive, hl, (polled_eq_some c i e).mpr ⟨hi, he⟩, otherAttempt_iff]
  exact if_neg h

theorem receive_late {n : Nat} (hi : c.position = some i) (he : c.nodes[i] = some e)
    (hl : c.link = .window t o (.late n)) : c.receive ch = { c with
      nodes := c.nodes.set i (some { e with stray := min 65535 (e.stray + 1) })
      link := .window t o (.late (n + 1)) } := by
  simp only [LineCtl.receive, hl, (polled_eq_some c i e).mpr ⟨hi, he⟩, modEntry_some _ he]
  rfl

section
variable (hrest : c.link = .idle ∨ ∃ due, c.link = .due due)
include hrest

theorem receive_line_stray (ht : c.lateTail = none) :
    c.receive ch = { c with strays := min 4294967295 (c.strays + 1) } := by
  have h : c.receive ch = c.lineStray := by
    rcases hrest with hl | ⟨due, hl⟩ <;> simp only [LineCtl.receive, hl, ht]
  exact h

theorem receive_tail_gone {n : Nat} (ht : c.lateTail = some (i, n)) (he : c.nodes[i] = none) :
    c.receive ch = { c with strays := min 4294967295 (c.strays + 1) } := by
  have h : c.receive ch = c.lineStray := by
    rcases hrest with hl | ⟨due, hl⟩ <;> simp only [LineCtl.receive, hl, ht, he]
  exact h

theorem receive_tail {n : Nat} (ht : c.lateTail = some (i, n)) (he : c.nodes[i] = some e) : c.receive ch =
    if e.bound.replyLength < n then { c with strays := min 4294967295 (c.strays + 1), lateTail := none }
    else { c with
      nodes := c.nodes.set i (some { e with stray := min 65535 (e.stray + 1) })
      lateTail := some (i, n + 1) } := by
  have h : c.receive ch = if e.bound.replyLength < n then { c with lateTail := none }.lineStray
      else { c.modEntry i (NodeEntry.strays 1) with lateTail := some (i, n + 1) } := by
    rcases hrest with hl | ⟨due, hl⟩ <;> simp only [LineCtl.receive, hl, ht, he]
  rw [h, modEntry_some _ he]
  rfl

end

end

/-! ## Edges and levels (R155) -/

theorem exec_edge_line (x : CharSamples) (h : s.inReset = false) :
    exec (.fieldCharacterReceived l (.edge x)) s = .next (s.edge l x) := by
  rw [exec, execFieldCharacterReceived, live_awake h]

theorem exec_high_line (h : s.inReset = false) : exec (.fieldCharacterReceived l .high) s =
    .next (s.setLine l { s.line l with receiver := (s.line l).receiver.high s.now }) := by
  rw [exec, execFieldCharacterReceived, live_awake h]
  rfl

theorem exec_ends_line (h : s.inReset = false) : exec (.fieldCharacterReceived l .ends) s =
    .next (onExpiry (s.line l).receiver.endsAt (fun _ => State.charEnds l) s) := by
  rw [exec, execFieldCharacterReceived, live_awake h]

theorem edge_driven (x : CharSamples) (h : (s.line l).driverEnabled = true) : s.edge l x = s := if_pos h

theorem edge_heard (x : CharSamples) (h : (s.line l).driverEnabled = false) : s.edge l x =
    if ((s.freeReceiver l).line l).receiver = .searching then ((s.freeReceiver l).endFirst l).modLine l fun c =>
      { c with receiver := .sampling (s.freeReceiver l).now x false }
    else s.freeReceiver l := if_neg (ne_true_of h)

theorem freeReceiver_none (h : (s.line l).receiver.freeFrom = none) : s.freeReceiver l = s := by
  simp only [State.freeReceiver, h]

theorem edge_searching (x : CharSamples) (h : (s.line l).driverEnabled = false) (hr : (s.line l).receiver = .searching) :
    s.edge l x = (s.endFirst l).modLine l fun c => { c with receiver := .sampling s.now x false } := by
  rw [edge_heard x h, freeReceiver_none (by rw [hr]; rfl), if_pos hr]

theorem edge_unheard (x : CharSamples) (h : (s.line l).driverEnabled = false) (hr : (s.line l).receiver ≠ .searching)
    (hf : s.freeReceiver l = s) : s.edge l x = s := by
  rw [edge_heard x h, hf, if_neg hr]

theorem endFirst_none (h : (s.line l).endedBy s.now = none) : s.endFirst l = s := by
  simp only [State.endFirst, h]

theorem endFirst_some {d : Nat} (h : (s.line l).endedBy s.now = some d) :
    s.endFirst l = { State.endReception l { s with now := d } with now := s.now } := by
  simp only [State.endFirst, h]

section
variable {since : Nat} {y : CharSamples} {up : Bool}

/-- Whether the receiver looks for an edge again. -/
theorem freeReceiver_sampling (hr : (s.line l).receiver = .sampling since y up) : s.freeReceiver l =
    if (if majority y.start = true then since + 18 ≤ s.now
      else (y.stop.s3 = true ∨ up = true) ∧ since + 423 ≤ s.now) then s.charEnds l else s := by
  cases hstart : majority y.start with
  | true => simp only [State.freeReceiver, hr, LineReceiver.freeFrom, hstart, if_true, glitchTime]
  | false =>
    by_cases hhigh : y.stop.s3 = true ∨ up = true
    · simp only [State.freeReceiver, hr, LineReceiver.freeFrom, hstart, Bool.false_eq_true, if_false, Bool.or_eq_true, hhigh,
        if_true, true_and, stopSampled]
    · simp only [State.freeReceiver, hr, LineReceiver.freeFrom, hstart, Bool.false_eq_true, if_false, Bool.or_eq_true, hhigh,
        false_and]

theorem charEnds_receiver (hr : (s.line l).receiver = .sampling since y up) :
    ((s.charEnds l).line l).receiver = receiverAfter y up := by
  cases hch : receiveChar y with
  | none => simp only [State.charEnds, hr, hch, line_modLine, if_true]
  | some ch =>
    simp only [State.charEnds, hr, hch, State.charIn, line_modLine, if_true]
    rw [LineCtl.receive_keeps]

theorem charEnds_driver : ((s.charEnds l).line l).driverEnabled = (s.line l).driverEnabled := by
  cases hr : (s.line l).receiver with
  | sampling since y up =>
    cases hch : receiveChar y with
    | none =>
      simp only [State.charEnds, hr, hch, line_modLine, if_true]
      rfl
    | some ch =>
      simp only [State.charEnds, hr, hch, State.charIn, line_modLine, if_true]
      exact LineCtl.receive_driverEnabled ch _
  | searching => simp only [State.charEnds, hr]
  | waitingHigh => simp only [State.charEnds, hr]

theorem edge_free (x : CharSamples) (h : (s.line l).driverEnabled = false) (hr : (s.line l).receiver = .sampling since y up)
    (hfree : if majority y.start = true then since + 18 ≤ s.now
      else (y.stop.s3 = true ∨ up = true) ∧ since + 423 ≤ s.now) : s.edge l x = (s.charEnds l).edge l x := by
  have hsearch : ((s.charEnds l).line l).receiver = .searching := by
    rw [charEnds_receiver hr, receiverAfter, if_pos]
    cases hstart : majority y.start with
    | true => rfl
    | false =>
      rw [hstart, if_neg Bool.false_ne_true] at hfree
      simpa using hfree.1
  rw [edge_searching x (charEnds_driver.trans h) hsearch, edge_heard x h, freeReceiver_sampling hr, if_pos hfree,
    if_pos hsearch]

theorem edge_busy (x : CharSamples) (h : (s.line l).driverEnabled = false) (hr : (s.line l).receiver = .sampling since y up)
    (hbusy : ¬if majority y.start = true then since + 18 ≤ s.now
      else (y.stop.s3 = true ∨ up = true) ∧ since + 423 ≤ s.now) : s.edge l x = s := by
  refine edge_unheard x h (by rw [hr]; exact nofun) ?_
  rw [freeReceiver_sampling hr, if_neg hbusy]

end

theorem charEnds_inReset : (s.charEnds l).inReset = s.inReset := by simp

theorem setLine_receiver {r : LineReceiver} (h : (s.line l).receiver = r) :
    s.setLine l { s.line l with receiver := r } = s := by
  subst h
  exact setLine_self s l

theorem charEvents {x : CharSamples} (h : s.inReset = false) (hc : c = s.line l) :
    (c.driverEnabled = true → exec (.fieldCharacterReceived l (.edge x)) s = .next s)
    ∧ (c.driverEnabled = false → c.receiver = .searching →
      (c.endedBy s.now = none → exec (.fieldCharacterReceived l (.edge x)) s = .next
        (s.setLine l { c with receiver := .sampling s.now x false }))
      ∧ ∀ (d : Nat) (t : State), c.endedBy s.now = some d →
        t = { State.endReception l { s with now := d } with now := s.now } →
        exec (.fieldCharacterReceived l (.edge x)) s = .next
          (t.setLine l { t.line l with receiver := .sampling s.now x false }))
    ∧ (c.driverEnabled = false → c.receiver = .waitingHigh → exec (.fieldCharacterReceived l (.edge x)) s = .next s)
    ∧ (∀ (since : Nat) (y : CharSamples) (up : Bool) (free : Prop), c.driverEnabled = false →
      c.receiver = .sampling since y up →
      free = (if majority y.start = true then since + 18 ≤ s.now
        else (y.stop.s3 = true ∨ up = true) ∧ since + 423 ≤ s.now) →
      (free → exec (.fieldCharacterReceived l (.edge x)) s = exec (.fieldCharacterReceived l (.edge x)) (s.charEnds l))
      ∧ (¬free → exec (.fieldCharacterReceived l (.edge x)) s = .next s)) := by
  subst hc
  rw [exec_edge_line x h]
  refine ⟨fun hdriver => by rw [edge_driven x hdriver], fun hdriver hr => ?_, fun hdriver hr => ?_,
    fun since y up free hdriver hr hfree => ?_⟩
  · rw [edge_searching x hdriver hr]
    refine ⟨fun hend => ?_, fun d t hend ht => ?_⟩
    · rw [endFirst_none hend]
      rfl
    · rw [endFirst_some hend, ht]
      rfl
  · rw [edge_unheard x hdriver (by rw [hr]; exact nofun) (freeReceiver_none (by rw [hr]; rfl))]
  · subst hfree
    refine ⟨fun hyes => ?_, fun hno => ?_⟩
    · rw [exec_edge_line x (charEnds_inReset.trans h), edge_free x hdriver hr hyes]
    · rw [edge_busy x hdriver hr hno]

theorem highEvents (h : s.inReset = false) (hc : c = s.line l) :
    (c.receiver = .waitingHigh → exec (.fieldCharacterReceived l .high) s =
      .next (s.setLine l { c with receiver := .searching }))
    ∧ (c.receiver = .searching → exec (.fieldCharacterReceived l .high) s = .next s)
    ∧ ∀ (since : Nat) (y : CharSamples) (up : Bool), c.receiver = .sampling since y up →
      (s.now < since + 423 → exec (.fieldCharacterReceived l .high) s = .next s)
      ∧ (since + 423 ≤ s.now → exec (.fieldCharacterReceived l .high) s =
        .next (s.setLine l { c with receiver := .sampling since y true })) := by
  subst hc
  rw [exec_high_line h]
  refine ⟨fun hr => by rw [hr]; rfl, fun hr => ?_, fun since y up hr => ⟨fun hbefore => ?_, fun hafter => ?_⟩⟩
  · have hsame : (s.line l).receiver.high s.now = .searching := by rw [hr]; rfl
    rw [hsame, setLine_receiver hr]
  · have hsame : (s.line l).receiver.high s.now = .sampling since y up := by
      rw [hr, LineReceiver.high, stopSampled, decide_eq_false (Nat.not_le.mpr hbefore), Bool.or_false]
    rw [hsame, setLine_receiver hr]
  · have hup : (s.line l).receiver.high s.now = .sampling since y true := by
      rw [hr, LineReceiver.high, stopSampled, decide_eq_true hafter, Bool.or_true]
    rw [hup]

/-- Settles O48. -/
theorem charactersReceived : Obligations.CharactersReceived := by
  unfold Obligations.CharactersReceived
  refine ⟨fun x => ⟨receiveChar_glitch, receiveChar_low⟩, fun y => ⟨majority_iff y, disagree_iff⟩,
    fun l x s c h hc => ?_, fun c now i e hi he => ⟨fun t o chars hl => ?_, fun t o n hl => ?_, fun t hl ht => ?_⟩,
    fun c now hrest => ⟨endedBy_no_tail (no_reply_of_link (not_window_of_rest hrest)),
      endedBy_tail (no_reply_of_link (not_window_of_rest hrest))⟩,
    fun since x up => ⟨rfl, rfl, rfl⟩, fun l s h => ⟨fun hno => ?_, fun since y up hr => ?_⟩,
    fun l since y up s c d hc hr => ⟨fun hch => ?_, fun ch hch hd => ?_⟩⟩
  · obtain ⟨hdriven, hsearch, hwait, hsample⟩ := charEvents (x := x) h hc
    exact ⟨hdriven, hsearch, hwait, hsample, highEvents h hc⟩
  · exact endedBy_inReply (inReply_at hi he hl (.inl ⟨chars, rfl, rfl⟩))
  · exact endedBy_inReply (inReply_at hi he hl (.inr rfl))
  · exact endedBy_no_tail (no_reply_waiting hl) ht
  · have hends : (s.line l).receiver.endsAt = none := by
      cases hr : (s.line l).receiver with
      | sampling since y up => exact absurd hr (hno since y up)
      | searching => rfl
      | waitingHigh => rfl
    rw [exec_ends_line h, hends, onExpiry_none]
  · rw [exec_ends_line h, endsAt_eq_some.mpr ⟨since, y, up, hr, rfl⟩, onExpiry_some]
    rfl
  · subst hc
    exact charEnds_glitch hr hch
  · have hends := charEnds_char hc hr hch hd
    have hnodes : d.nodes = c.nodes := by rw [hd]
    have hposition : d.position = c.position := by rw [hd]
    have hlink : d.link = c.link := by rw [hd]
    have htail : d.lateTail = c.lateTail := by rw [hd]
    have hattempt : d.attempt = c.attempt := by rw [hd]
    have hstrays : d.strays = c.strays := by rw [hd]
    rw [← hnodes, ← hlink, ← htail, ← hattempt, ← hstrays, ← hposition, hends]
    refine ⟨fun i e hi he => ⟨fun t hl => ⟨fun hfirst => ?_, fun hstray => ?_⟩,
      fun t o chars hl => ⟨fun hother => ?_, fun hnext => ?_⟩, fun t o n hl => ?_⟩,
      fun hrest => ⟨fun ht => ?_, fun i n ht => ⟨fun he => ?_, fun e he => ⟨fun hle => ?_, fun hlt => ?_⟩⟩⟩⟩
    · rw [receive_first hi he hl hfirst]
    · rw [receive_stray hi he hl hstray]
    · rw [receive_other hi he hl hother]
    · rw [receive_next hi he hl hnext]
    · rw [receive_late hi he hl]
    · rw [receive_line_stray hrest ht]
    · rw [receive_tail_gone hrest ht he]
    · rw [receive_tail hrest ht he, if_neg (Nat.not_lt.mpr hle)]
    · rw [receive_tail hrest ht he, if_pos hlt]

end Sys2Proof.Machine
end


section
/-! SUPPORT. The pump's status on a field line, which refutes O49. -/

namespace Sys2Proof.Machine

open Sys2Proof

/-- R191: STOPPED is 0 on the line, though RUNNING stands first in the order of the states. -/
theorem parseReply_stopped : parseReply .pump [0] = some (.pump .STOPPED) := by decide

theorem stopped_place : (0 : Byte) ≠ BitVec.ofNat 8 PumpStatus.STOPPED.ctorIdx := by decide

/-- Refutes O49: its last clause reads a pump's status byte by the place of the status in its list, RUNNING before STOPPED,
where the line carries STOPPED as 0 and RUNNING as 1 (R191); the payload `[0]` of a pump's reply is STOPPED. -/
theorem not_attemptOutcomes : ¬ Obligations.AttemptOutcomes := by
  unfold Obligations.AttemptOutcomes
  rintro ⟨-, -, -, -, -, -, -, -, hparse⟩
  obtain ⟨-, -, -, -, -, hpump⟩ := hparse 0 0 0 0 0 0 0 0 0 0 0
  obtain ⟨st, hcode, hst⟩ := (hpump (.pump .STOPPED)).mp parseReply_stopped
  cases hst
  exact stopped_place hcode

end Sys2Proof.Machine
end


section
/-! SUPPORT. Outcomes of polls: the entry, its owners and the round (O50). -/

namespace Sys2Proof.Machine

open Sys2Proof

variable {s : State} {c : LineCtl} {l : Line}

/-! ## Attempts (R163, R164) -/

theorem attemptFailed_first (f : Failure) (hc : c = s.line l) (ha : c.attempt = some .FIRST) :
    s.attemptFailed l f = s.setLine l { c with link := .due s.now } := by
  subst hc
  cases hp : (s.line l).position with
  | none => simp only [State.attemptFailed, hp]
  | some i => simp only [State.attemptFailed, hp, ha]

theorem attemptFailed_retry {i : Fin 32} {e : NodeEntry} (f : Failure) (hc : c = s.line l) (ha : c.attempt = some .RETRY)
    (hi : c.position = some i) (he : c.nodes[i] = some e) :
    s.attemptFailed l f = (s.settleEntry l i e (e.failed f)).modLine l (LineCtl.endPoll s.now i) := by
  subst hc
  simp only [State.attemptFailed, hi, ha, he]

theorem failed_eq {e : NodeEntry} {n : Nat} (h : n = min 3 (e.failures + 1)) :
    e.failed .TIMEOUT = { e with timeout := min 65535 (e.timeout + 1), failures := n, state := failedState n e.state }
    ∧ e.failed .CHECK = { e with check := min 65535 (e.check + 1), failures := n, state := failedState n e.state } := by
  subst h
  exact ⟨rfl, rfl⟩

theorem failedState_eq (n : Nat) : failedState n .ONLINE = .SUSPECT ∧ failedState n .OFFLINE = .OFFLINE
    ∧ (n < 3 → failedState n .UNHEARD = .UNHEARD ∧ failedState n .SUSPECT = .SUSPECT)
    ∧ (3 ≤ n → failedState n .UNHEARD = .OFFLINE ∧ failedState n .SUSPECT = .OFFLINE) :=
  ⟨rfl, rfl, fun h => ⟨if_neg (Nat.not_le.mpr h), if_neg (Nat.not_le.mpr h)⟩, fun h => ⟨if_pos h, if_pos h⟩⟩

/-! ## Settling an entry (R164 to R166) -/

theorem all_entries_iff {p : NodeEntry → Bool} : (c.entries.all fun x => p x.2) = true ↔
    ∀ (j : Fin 32) (x : NodeEntry), c.nodes[j] = some x → p x = true := by
  simp only [LineCtl.entries, List.all_eq_true, List.mem_filterMap, List.mem_finRange, true_and, Option.map_eq_some_iff]
  constructor
  · exact fun h j x hx => h (j, x) ⟨j, x, hx, rfl⟩
  · rintro h _ ⟨j, x, hx, rfl⟩
    exact h j x hx

theorem settleEntry_same {i : Fin 32} {old e : NodeEntry} (h : e.state = old.state) :
    s.settleEntry l i old e = s.setLine l ((s.line l).setEntry i e) := if_pos h

theorem settleEntry_changed {i : Fin 32} {old e : NodeEntry} {nodes : Vector (Option NodeEntry) 32} {down : Prop}
    [Decidable down] (hc : c = s.line l) (hn : nodes = c.nodes.set i (some e))
    (hdown : down ↔ ∀ (j : Fin 32) (x : NodeEntry), nodes[j] = some x → x.state = .OFFLINE) (h : e.state ≠ old.state) :
    s.settleEntry l i old e = State.postIf (decide (down ∧ c.lineDown = false)) .LINE_DOWN
      (State.post .NODE_CHANGED (s.setLine l { c with
        nodes := nodes
        handovers := c.handovers ++ stateHandovers l e e.state
        lineDown := if e.state = .ONLINE then false else c.lineDown || decide down })) := by
  subst hc hn
  have hall : (((s.line l).setEntry i e).entries.all fun x => decide (x.2.state = .OFFLINE)) = decide down := by
    rw [Bool.eq_iff_iff, all_entries_iff (p := fun x => decide (x.state = .OFFLINE)), decide_eq_true_eq, hdown]
    simp only [decide_eq_true_eq]
    rfl
  have hpost : decide (down ∧ (s.line l).lineDown = false) = (decide down && !(s.line l).lineDown) := by
    rw [Bool.decide_and]
    cases (s.line l).lineDown <;> rfl
  rw [hpost, ← hall]
  exact if_neg h

/-! ## The round (R158) -/

theorem polls_iff {i : Fin 32} : c.polls i = true ↔
    ∃ e, c.nodes[i] = some e ∧ (e.state ≠ .OFFLINE ∨ c.round % 8 = 0) := by
  simp only [LineCtl.polls, Option.any_eq_true, NodeEntry.visited, Bool.or_eq_true, decide_eq_true_eq]

/-- The line after a number of completed rounds. -/
def LineCtl.roundsOn (n : Nat) (c : LineCtl) : LineCtl :=
  { c with round := (c.round + n) % 65536, roundsCompleted := (c.roundsCompleted + n) % 4294967296 }

theorem roundsOn_complete (n : Nat) (c : LineCtl) : c.completeRound.roundsOn n = c.roundsOn (n + 1) := by
  simp only [LineCtl.roundsOn, LineCtl.completeRound, Nat.mod_add_mod, Nat.add_assoc, Nat.add_comm 1 n]

theorem advance_found {start : Nat} {j : Fin 32} (n : Nat) (h : c.nextIn start = some j) :
    LineCtl.advance (n + 1) start c = { c with cursor := some j } := by
  simp only [LineCtl.advance, h]

theorem advance_complete {start : Nat} (n : Nat) (h : c.nextIn start = none) :
    LineCtl.advance (n + 1) start c = LineCtl.advance n 0 c.completeRound := by
  simp only [LineCtl.advance, h]

/-- R158: rounds that visit none complete as they begin. -/
theorem advance_rounds {n fuel start : Nat} {j : Fin 32} (hn : 1 ≤ n) (hfuel : n ≤ fuel)
    (hrest : ∀ k : Fin 32, start ≤ k.val → c.polls k = false)
    (hskip : ∀ m, 1 ≤ m → m < n → ∀ k, (c.roundsOn m).polls k = false) (hj : (c.roundsOn n).polls j = true)
    (hfirst : ∀ k < j, (c.roundsOn n).polls k = false) :
    LineCtl.advance (fuel + 1) start c = { c.roundsOn n with cursor := some j } := by
  rw [advance_complete fuel (nextIn_none_iff.mpr hrest)]
  obtain ⟨fuel, rfl⟩ : ∃ k, fuel = k + 1 := ⟨fuel - 1, by omega⟩
  induction n, hn using Nat.le_induction generalizing c start fuel with
  | base =>
    exact advance_found fuel (nextIn_some_iff.mpr ⟨⟨Nat.zero_le _, hj⟩, fun k hk _ => hfirst k hk⟩)
  | succ n hn ih =>
    obtain ⟨fuel, rfl⟩ : ∃ k, fuel = k + 1 := ⟨fuel - 1, by omega⟩
    have hnext (k : Fin 32) : c.completeRound.polls k = false := hskip 1 (by omega) (by omega) k
    rw [advance_complete _ (nextIn_none_iff.mpr fun k _ => hnext k), ← roundsOn_complete]
    refine ih (start := 0) (fun k _ => hnext k) (fun m hm hlt k => ?_) ?_ (fun k hk => ?_) fuel (by omega)
    · rw [roundsOn_complete]
      exact hskip (m + 1) (by omega) (by omega) k
    · rw [roundsOn_complete]
      exact hj
    · rw [roundsOn_complete]
      exact hfirst k hk

/-- Settles O50. -/
theorem pollOutcomes : Obligations.PollOutcomes := by
  unfold Obligations.PollOutcomes
  refine ⟨fun l f s c hc => ⟨attemptFailed_first f hc, fun i e => attemptFailed_retry f hc⟩, fun l i e r s => rfl,
    fun e n h => failed_eq h, failedState_eq, fun l i old e s c nodes down inst hc hn hdown => ⟨fun h => ?_, fun h => ?_⟩,
    fun l e st r => ?_, fun now i c visits hv => ⟨fun j hij hj hbetween => ?_, fun n j h1 h8 hrest hskip hj hfirst => ?_⟩⟩
  · subst hc hn
    exact settleEntry_same h
  · exact settleEntry_changed hc hn hdown h
  · refine ⟨fun i hb => ?_, fun i hb => ?_, fun i hb => ?_, fun i hb => ?_, fun i hb => ?_, fun hb => ?_, fun i x hb hr => ?_,
      fun i x hb hr => ?_, fun i x hb hr => ?_, fun i x hb hr => ?_, fun i x hb hr => ?_, fun x hb hr => ?_⟩
    · simp only [stateHandovers, hb]
    · simp only [stateHandovers, hb]
    · simp only [stateHandovers, hb]
    · simp only [stateHandovers, hb]
    · simp only [stateHandovers, hb]
    · simp only [stateHandovers, hb]
    · simp only [reportHandovers, hb, hr]
    · simp only [reportHandovers, hb, hr]
    · simp only [reportHandovers, hb, hr]
    · simp only [reportHandovers, hb, hr]
    · simp only [reportHandovers, hb, hr]
    · simp only [reportHandovers, hb, hr]
  · have hvisits (k : Fin 32) : c.polls k = true ↔ visits c.round k := by rw [hv, polls_iff]
    have hnext : c.nextIn (i.val + 1) = some j :=
      nextIn_some_iff.mpr ⟨⟨hij, (hvisits j).mpr hj⟩,
        fun k hk hik => Bool.eq_false_iff.mpr (mt (hvisits k).mp (hbetween k hik hk))⟩
    rw [LineCtl.endPoll, advance_found 8 hnext]
  · have hvisits (k : Fin 32) : c.polls k = true ↔ visits c.round k := by rw [hv, polls_iff]
    have hvisitsOn (m : Nat) (k : Fin 32) : (c.roundsOn m).polls k = true ↔ visits ((c.round + m) % 65536) k := by
      rw [hv, polls_iff]
      rfl
    have hadvance := advance_rounds (c := c) (start := i.val + 1) h1 h8
      (fun k hk => Bool.eq_false_iff.mpr (mt (hvisits k).mp (hrest k hk)))
      (fun m hm hlt k => Bool.eq_false_iff.mpr (mt (hvisitsOn m k).mp (hskip m hm hlt k)))
      ((hvisitsOn n j).mpr hj) (fun k hk => Bool.eq_false_iff.mpr (mt (hvisitsOn n k).mp (hfirst k hk)))
    rw [LineCtl.endPoll, hadvance]
    rfl

end Sys2Proof.Machine
end


section
/-! SUPPORT. The nine checks of a commit (O52). -/

namespace Sys2Proof.Machine

open Sys2Proof

variable {s : State}

/-! ## The first that fails -/

theorem firstFail_none_iff {n check : Nat} {table : CommitTable} {fails : Fin n → Bool} :
    firstFail check table fails = none ↔ ∀ i, fails i = false := by
  rw [firstFail, Option.map_eq_none_iff, ← Fin.find?_eq_find?_finRange, Fin.find?_eq_none_iff]

theorem firstFail_some {n check : Nat} {table : CommitTable} {fails : Fin n → Bool} {i : Fin n} (hi : fails i = true)
    (hfirst : ∀ j < i, fails j = false) :
    firstFail check table fails = some (check, some { table := table, index := i.val, position := 0 }) := by
  rw [firstFail, ← Fin.find?_eq_find?_finRange, Fin.find?_eq_some_iff.mpr ⟨hi, hfirst⟩]
  rfl

section
variable {check : Nat} {l : Line} {c : LineCtl} {fails : Fin 32 → NodeEntry → Bool}

theorem find_entries : (c.entries.find? fun x => fails x.1 x.2) =
    (Fin.find? fun i : Fin 32 => c.nodes[i].any (fails i)).bind fun i => c.nodes[i].map fun e => (i, e) := by
  rw [LineCtl.entries, List.find?_filterMap, Fin.find?_eq_find?_finRange]
  congr 2
  funext i
  cases c.nodes[i] <;> rfl

theorem firstNode_none_iff : firstNode check l c fails = none ↔ ∀ i e, c.nodes[i] = some e → fails i e = false := by
  rw [firstNode, Option.map_eq_none_iff, List.find?_eq_none]
  simp only [LineCtl.entries, List.mem_filterMap, List.mem_finRange, true_and, Option.map_eq_some_iff, Bool.not_eq_true]
  constructor
  · exact fun h i e he => h (i, e) ⟨i, e, he, rfl⟩
  · rintro h _ ⟨i, e, he, rfl⟩
    exact h i e he

theorem firstNode_some {i : Fin 32} {e : NodeEntry} (he : c.nodes[i] = some e) (hi : fails i e = true)
    (hfirst : ∀ j < i, ∀ f, c.nodes[j] = some f → fails j f = false) : firstNode check l c fails =
      some (check, some { table := .NODE, index := l.ctorIdx, position := i.val }) := by
  have hfind : (Fin.find? fun i : Fin 32 => c.nodes[i].any (fails i)) = some i := by
    refine Fin.find?_eq_some_iff.mpr ⟨by rw [he]; exact hi, fun j hj => ?_⟩
    cases hf : c.nodes[j] with
    | none => rfl
    | some f => exact hfirst j hj f hf
  rw [firstNode, find_entries, hfind, Option.bind_some, he]
  rfl

end

/-- A check of the node entries of both lines, line A before line B. -/
def State.firstOfLines (s : State) (check : Nat) (fails : Line → Fin 32 → NodeEntry → Bool) : Failing :=
  (firstNode check .A s.lines.a (fails .A)).or (firstNode check .B s.lines.b (fails .B))

section
variable {check : Nat} {fails : Line → Fin 32 → NodeEntry → Bool}

theorem firstOfLines_none_iff : s.firstOfLines check fails = none ↔
    ∀ l i e, (s.line l).nodes[i] = some e → fails l i e = false := by
  rw [State.firstOfLines, Option.or_eq_none_iff, firstNode_none_iff, firstNode_none_iff]
  constructor
  · rintro ⟨ha, hb⟩ l
    cases l with
    | A => exact ha
    | B => exact hb
  · exact fun h => ⟨h .A, h .B⟩

theorem firstOfLines_some {l : Line} {i : Fin 32} {e : NodeEntry} (he : (s.line l).nodes[i] = some e)
    (hi : fails l i e = true)
    (hfirst : ∀ k j f, (k = .A ∧ l = .B ∨ k = l ∧ j < i) → (s.line k).nodes[j] = some f → fails k j f = false) :
    s.firstOfLines check fails = some (check, some { table := .NODE, index := l.ctorIdx, position := i.val }) := by
  cases l with
  | A => rw [State.firstOfLines, firstNode_some (c := s.lines.a) he hi (fun j hj f => hfirst .A j f (.inr ⟨rfl, hj⟩)),
      Option.some_or]
  | B =>
    have hnone : firstNode check .A s.lines.a (fails .A) = none :=
      firstNode_none_iff.mpr fun j f => hfirst .A j f (.inl ⟨rfl, rfl⟩)
    rw [State.firstOfLines, hnone, Option.none_or,
      firstNode_some (c := s.lines.b) he hi (fun j hj f => hfirst .B j f (.inr ⟨rfl, hj⟩))]

end

/-! ## Bindings (check 6) -/

/-- The places of both lines. -/
def places : List (Line × Fin 32) := (List.finRange 32).map (Prod.mk .A) ++ (List.finRange 32).map (Prod.mk .B)

theorem mem_places (x : Line × Fin 32) : x ∈ places := by
  obtain ⟨l, i⟩ := x
  cases l <;> simp [places]

theorem nodup_places : places.Nodup := by
  rw [places, List.nodup_append]
  refine ⟨(List.nodup_finRange 32).map fun _ _ h => (Prod.mk.inj h).2,
    (List.nodup_finRange 32).map fun _ _ h => (Prod.mk.inj h).2, ?_⟩
  simp

/-- A list that names each thing once counts one exactly where there is one. -/
theorem countP_eq_one_iff {α : Type} {l : List α} {q : α → Bool} (hn : l.Nodup) (hall : ∀ x, x ∈ l) :
    l.countP q = 1 ↔ ∃ x, q x = true ∧ ∀ y, q y = true → y = x := by
  rw [List.countP_eq_length_filter, List.length_eq_one_iff]
  constructor
  · rintro ⟨x, hx⟩
    have hmem (y : α) : y ∈ l.filter q ↔ y = x := by rw [hx, List.mem_singleton]
    exact ⟨x, (List.mem_filter.mp ((hmem x).mpr rfl)).2, fun y hy => (hmem y).mp (List.mem_filter.mpr ⟨hall y, hy⟩)⟩
  · rintro ⟨x, hx, honly⟩
    refine ⟨x, List.perm_singleton.mp ((List.perm_ext_iff_of_nodup (hn.filter _) (List.nodup_singleton x)).mpr fun y => ?_)⟩
    rw [List.mem_filter, List.mem_singleton]
    exact ⟨fun h => honly y h.2, fun h => ⟨hall y, h ▸ hx⟩⟩

theorem countP_entries (c : LineCtl) (p : NodeEntry → Bool) :
    (c.entries.countP fun x => p x.2) = (List.finRange 32).countP fun i => c.nodes[i].any p := by
  rw [LineCtl.entries, List.countP_filterMap]
  congr 1
  funext i
  cases c.nodes[i] <;> rfl

theorem bindings_eq (b : Bound) :
    s.bindings b = places.countP fun x => (s.line x.1).nodes[x.2].any fun e => decide (e.bound = b) := by
  rw [State.bindings, List.countP_append, countP_entries s.lines.a fun e => decide (e.bound = b),
    countP_entries s.lines.b fun e => decide (e.bound = b), places, List.countP_append, List.countP_map, List.countP_map]
  rfl

theorem boundOnce_iff (b : Bound) : BoundOnce s b ↔ s.bindings b = 1 := by
  have hbound (l : Line) (i : Fin 32) : ((s.line l).nodes[i].any fun e => decide (e.bound = b)) = true ↔
      (s.line l).nodes[i].map NodeEntry.bound = some b := by
    cases (s.line l).nodes[i] <;> simp
  rw [bindings_eq, countP_eq_one_iff nodup_places mem_places]
  simp only [Prod.exists, Prod.forall, hbound, Prod.mk.injEq]
  rfl

theorem boundConfigured_iff (b : Bound) : s.boundConfigured b = true ↔ ObjectConfigured s b := by
  cases b <;> simp [State.boundConfigured, ObjectConfigured]

theorem misbound_iff (b : Bound) : s.misbound b = true ↔ ObjectConfigured s b ∧ ¬BoundOnce s b := by
  rw [State.misbound, Bool.and_eq_true, boundConfigured_iff, decide_eq_true_eq, boundOnce_iff]

end Sys2Proof.Machine
end


section
/-! SUPPORT. The nine checks one by one, and the first that fails (O52). -/

namespace Sys2Proof.Machine

open Sys2Proof

variable {s : State}

/-! ## Each check -/

/-- Check 6, over the objects, kind after kind. -/
def State.firstMisbound (s : State) : Failing :=
  (firstFail 6 .ENGINE fun i => s.misbound (.engine i)).or ((firstFail 6 .RUDDER fun i => s.misbound (.rudder i)).or
    ((firstFail 6 .COUPLING fun i => s.misbound (.winch i)).or ((firstFail 6 .METER fun i => s.misbound (.meter i)).or
      (firstFail 6 .TANK fun i => s.misbound (.tank i)))))

theorem commitFailure_eq : s.commitFailure =
    (check1 s).or ((check2 s).or ((check3 s).or ((check4 s).or ((check5 s).or
      ((s.firstOfLines 6 fun _ _ e => !s.boundConfigured e.bound).or (s.firstMisbound.or
        ((s.firstOfLines 7 fun l => (s.line l).repeats).or ((firstFail 8 .METER s.meterMislinked).or
          ((firstFail 8 .ENGINE s.engineMislinked).or (check9 s)))))))))) := by
  have hpair (a b : Failing) : (a <|> b) = a.or b := by cases a <;> rfl
  simp only [State.commitFailure, check6, check7, check8, State.firstOfLines, State.firstMisbound, Option.or_assoc, hpair]
  rfl

theorem check1_none_iff : check1 s = none ↔ ∃ i : Fin 8, AheadEngine s i := by
  have hany : s.engines.toList.any Engine.isAhead = true ↔ ∃ i : Fin 8, AheadEngine s i := by
    simp only [List.any_eq_true, Vector.mem_toList_iff, Vector.mem_iff_getElem, Engine.isAhead, Bool.and_eq_true,
      decide_eq_true_eq]
    constructor
    · rintro ⟨_, ⟨k, hk, rfl⟩, he⟩
      exact ⟨⟨k, hk⟩, he⟩
    · rintro ⟨i, hi⟩
      exact ⟨_, ⟨i.val, i.isLt, rfl⟩, hi⟩
  rw [← hany, check1]
  split <;> simp_all

theorem check1_some (h : ¬∃ i : Fin 8, AheadEngine s i) : check1 s = some (1, none) := by
  rw [← check1_none_iff] at h
  unfold check1 at h ⊢
  split_ifs at h ⊢ with hany
  · exact absurd rfl h
  · rfl

/-- A scan whose test holds exactly where something is wrong. -/
theorem firstFail_ok {n check : Nat} {table : CommitTable} {fails : Fin n → Bool} {wrong : Fin n → Prop}
    (h : ∀ i, fails i = true ↔ wrong i) : firstFail check table fails = none ↔ ∀ i, ¬wrong i := by
  simp only [firstFail_none_iff, ← h, Bool.not_eq_true]

theorem firstFail_at {n check : Nat} {table : CommitTable} {fails : Fin n → Bool} {wrong : Fin n → Prop} {i : Fin n}
    (h : ∀ i, fails i = true ↔ wrong i) (hi : wrong i) (hfirst : ∀ j < i, ¬wrong j) :
    firstFail check table fails = some (check, some { table := table, index := i.val, position := 0 }) :=
  firstFail_some ((h i).mpr hi) fun j hj => Bool.eq_false_iff.mpr (mt (h j).mp (hfirst j hj))

theorem feedWrong_iff (i : Fin 8) : (s.engines[i].configured && (!s.tanks[s.engines[i].cfg.feedTank].used
    || decide (s.tanks[s.engines[i].cfg.feedTank].cfg.station ≠ s.engines[i].cfg.station))) = true ↔ FeedWrong s i := by
  simp only [Bool.and_eq_true, Bool.or_eq_true, Bool.not_eq_true', decide_eq_true_eq]

theorem speedWrong_iff (i : Fin 8) : (s.engines[i].configured
    && decide (s.engines[i].cfg.maxRpm < s.engines[i].cfg.idleRpm + 100)) = true ↔ SpeedWrong s i := by
  simp only [Bool.and_eq_true, decide_eq_true_eq]

theorem levelsWrong_iff (i : Fin 24) :
    (s.couplings[i].used && !s.couplings[i].cfg.ordered) = true ↔ LevelsWrong s i := by
  simp only [Bool.and_eq_true, Bool.not_eq_true', CouplingCfg.ordered, ← Bool.not_eq_true, decide_eq_true_eq, and_assoc]

theorem tankLevelsWrong_iff (i : Fin 8) : (s.tanks[i].used && !s.tanks[i].cfg.ordered) = true ↔ TankLevelsWrong s i := by
  simp only [Bool.and_eq_true, Bool.not_eq_true', TankCfg.ordered, ← Bool.not_eq_true, decide_eq_true_eq, and_assoc]

theorem weightWrong_iff (i : Fin 8) : (s.engines[i].configured && !within 1 100 s.engines[i].cfg.weight) = true ↔
    s.engines[i].configured = true ∧ ¬(1 ≤ s.engines[i].cfg.weight ∧ s.engines[i].cfg.weight ≤ 100) := by
  simp only [Bool.and_eq_true, Bool.not_eq_true', ← Bool.not_eq_true, within_iff]

theorem meterMislinked_iff (i : Fin 16) : s.meterMislinked i = true ↔
    s.meters[i].used = true ∧ ¬((s.meters[i].cfg.kind = .ENGINE ∧ ∃ e, s.meters[i].cfg.engine = some e
        ∧ s.engines[e].configured = true ∧ s.engines[e].cfg.meter = some i)
      ∨ (s.meters[i].cfg.kind ≠ .ENGINE ∧ s.meters[i].cfg.engine = none)) := by
  cases hk : s.meters[i].cfg.kind <;> cases he : s.meters[i].cfg.engine <;>
    simp only [State.meterMislinked, hk, he] <;> simp [imp_iff_not_or]

theorem engineMislinked_iff (i : Fin 8) : s.engineMislinked i = true ↔
    s.engines[i].configured = true ∧ ∃ m, s.engines[i].cfg.meter = some m
      ∧ ¬(s.meters[m].used = true ∧ s.meters[m].cfg.kind = .ENGINE ∧ s.meters[m].cfg.engine = some i) := by
  cases hm : s.engines[i].cfg.meter <;> simp only [State.engineMislinked, hm] <;> simp [imp_iff_not_or, or_assoc]

theorem repeats_iff {l : Line} {i : Fin 32} {f : NodeEntry} : (s.line l).repeats i f = true ↔
    ∃ (j : Fin 32) (e : NodeEntry), j < i ∧ (s.line l).nodes[j] = some e ∧ e.address = f.address := by
  simp only [LineCtl.repeats, LineCtl.entries, List.any_eq_true, List.mem_filterMap, List.mem_finRange, true_and,
    Option.map_eq_some_iff, Bool.and_eq_true, decide_eq_true_eq]
  constructor
  · rintro ⟨_, ⟨j, e, he, rfl⟩, hj, ha⟩
    exact ⟨j, e, hj, he, ha⟩
  · rintro ⟨j, e, hj, he, ha⟩
    exact ⟨_, ⟨j, e, he, rfl⟩, hj, ha⟩

/-! ## The objects of check 6 -/

section
variable {wrong : Bound → Prop} (hw : ∀ b, wrong b ↔ b ≠ .pump ∧ ObjectConfigured s b ∧ ¬BoundOnce s b)
include hw

theorem misbound_wrong {b : Bound} (h : b ≠ .pump) : s.misbound b = true ↔ wrong b := by
  rw [misbound_iff, hw]
  exact (and_iff_right h).symm

theorem firstMisbound_none_iff : s.firstMisbound = none ↔ ∀ b, ¬wrong b := by
  simp only [State.firstMisbound, Option.or_eq_none_iff, firstFail_none_iff, ← Bool.not_eq_true]
  constructor
  · rintro ⟨he, hr, hc, hm, ht⟩ b hb
    cases b with
    | engine i => exact he i ((misbound_wrong hw (by nofun)).mpr hb)
    | rudder i => exact hr i ((misbound_wrong hw (by nofun)).mpr hb)
    | winch i => exact hc i ((misbound_wrong hw (by nofun)).mpr hb)
    | meter i => exact hm i ((misbound_wrong hw (by nofun)).mpr hb)
    | tank i => exact ht i ((misbound_wrong hw (by nofun)).mpr hb)
    | pump => exact ((hw .pump).mp hb).1 rfl
  · intro h
    exact ⟨fun i => mt (misbound_wrong hw (by nofun)).mp (h _), fun i => mt (misbound_wrong hw (by nofun)).mp (h _),
      fun i => mt (misbound_wrong hw (by nofun)).mp (h _), fun i => mt (misbound_wrong hw (by nofun)).mp (h _),
      fun i => mt (misbound_wrong hw (by nofun)).mp (h _)⟩

theorem firstMisbound_some {b : Bound} {t : CommitTable} {n : Nat} (hb : wrong b) (ht : t.ctorIdx = b.kind)
    (hn : b.number = some n)
    (hfirst : ∀ (a : Bound) (m : Nat), a.number = some m → (a.kind < b.kind ∨ a.kind = b.kind ∧ m < n) → ¬wrong a) :
    s.firstMisbound = some (6, some { table := t, index := n, position := 0 }) := by
  have hits {k : Nat} {table : CommitTable} (f : Fin k → Bound) (hp : ∀ i, f i ≠ .pump) (i : Fin k) (hi : wrong (f i))
      (hlow : ∀ j < i, ¬wrong (f j)) : firstFail 6 table (fun i => s.misbound (f i)) =
        some (6, some { table := table, index := i.val, position := 0 }) :=
    firstFail_at (fun i => misbound_wrong hw (hp i)) hi hlow
  have clear {k : Nat} {table : CommitTable} (f : Fin k → Bound) (hp : ∀ i, f i ≠ .pump) (hnone : ∀ i, ¬wrong (f i)) :
      firstFail 6 table (fun i => s.misbound (f i)) = none :=
    (firstFail_ok fun i => misbound_wrong hw (hp i)).mpr hnone
  have htable (u : CommitTable) (hu : u.ctorIdx = b.kind) : t = u := by
    rw [← hu] at ht
    cases t <;> cases u <;> first | rfl | cases ht
  rw [State.firstMisbound]
  cases b with
  | engine i =>
    cases hn
    rw [htable .ENGINE rfl, hits .engine (by nofun) i hb fun j hj => hfirst _ j rfl (.inr ⟨rfl, hj⟩), Option.some_or]
  | rudder i =>
    cases hn
    rw [htable .RUDDER rfl, clear .engine (by nofun) fun j => hfirst _ j rfl (.inl (of_decide_eq_true rfl)), Option.none_or,
      hits .rudder (by nofun) i hb fun j hj => hfirst _ j rfl (.inr ⟨rfl, hj⟩), Option.some_or]
  | winch i =>
    cases hn
    rw [htable .COUPLING rfl, clear .engine (by nofun) fun j => hfirst _ j rfl (.inl (of_decide_eq_true rfl)), Option.none_or,
      clear .rudder (by nofun) fun j => hfirst _ j rfl (.inl (of_decide_eq_true rfl)), Option.none_or,
      hits .winch (by nofun) i hb fun j hj => hfirst _ j rfl (.inr ⟨rfl, hj⟩), Option.some_or]
  | meter i =>
    cases hn
    rw [htable .METER rfl, clear .engine (by nofun) fun j => hfirst _ j rfl (.inl (of_decide_eq_true rfl)), Option.none_or,
      clear .rudder (by nofun) fun j => hfirst _ j rfl (.inl (of_decide_eq_true rfl)), Option.none_or,
      clear .winch (by nofun) fun j => hfirst _ j rfl (.inl (of_decide_eq_true rfl)), Option.none_or,
      hits .meter (by nofun) i hb fun j hj => hfirst _ j rfl (.inr ⟨rfl, hj⟩), Option.some_or]
  | tank i =>
    cases hn
    rw [htable .TANK rfl, clear .engine (by nofun) fun j => hfirst _ j rfl (.inl (of_decide_eq_true rfl)), Option.none_or,
      clear .rudder (by nofun) fun j => hfirst _ j rfl (.inl (of_decide_eq_true rfl)), Option.none_or,
      clear .winch (by nofun) fun j => hfirst _ j rfl (.inl (of_decide_eq_true rfl)), Option.none_or,
      clear .meter (by nofun) fun j => hfirst _ j rfl (.inl (of_decide_eq_true rfl)), Option.none_or,
      hits .tank (by nofun) i hb fun j hj => hfirst _ j rfl (.inr ⟨rfl, hj⟩)]
  | pump => cases hn

end

/-! ## The order of the checks -/

theorem nodes_ok_iff : (s.firstOfLines 6 fun _ _ e => !s.boundConfigured e.bound) = none ↔
    ∀ (l : Line) (i : Fin 32) (e : NodeEntry), (s.line l).nodes[i] = some e → ObjectConfigured s e.bound := by
  simp only [firstOfLines_none_iff, Bool.not_eq_false', boundConfigured_iff]

section
variable {twice : Line → Fin 32 → Prop}
  (ht : ∀ l i, twice l i ↔ ∃ (j : Fin 32) (e f : NodeEntry), j < i ∧ (s.line l).nodes[j] = some e
      ∧ (s.line l).nodes[i] = some f ∧ e.address = f.address)
include ht

theorem repeats_twice {l : Line} {i : Fin 32} {f : NodeEntry} (hf : (s.line l).nodes[i] = some f) :
    (s.line l).repeats i f = true ↔ twice l i := by
  rw [repeats_iff, ht]
  constructor
  · rintro ⟨j, e, hj, he, ha⟩
    exact ⟨j, e, f, hj, he, hf, ha⟩
  · rintro ⟨j, e, f', hj, he, hf', ha⟩
    obtain rfl := Option.some.inj (hf.symm.trans hf')
    exact ⟨j, e, hj, he, ha⟩

theorem addresses_ok_iff : (s.firstOfLines 7 fun l => (s.line l).repeats) = none ↔ ∀ l i, ¬twice l i := by
  rw [firstOfLines_none_iff]
  constructor
  · intro h l i htwice
    obtain ⟨j, e, f, -, -, hf, -⟩ := (ht l i).mp htwice
    exact ne_true_of (h l i f hf) ((repeats_twice ht hf).mpr htwice)
  · exact fun h l i f hf => Bool.eq_false_iff.mpr (mt (repeats_twice ht hf).mp (h l i))

theorem addresses_fail {l : Line} {i : Fin 32} (h : twice l i)
    (hfirst : ∀ k j, (k = .A ∧ l = .B ∨ k = l ∧ j < i) → ¬twice k j) :
    (s.firstOfLines 7 fun l => (s.line l).repeats) =
      some (7, some { table := .NODE, index := l.ctorIdx, position := i.val }) := by
  obtain ⟨-, -, f, -, -, hf, -⟩ := (ht l i).mp h
  exact firstOfLines_some hf ((repeats_twice ht hf).mpr h)
    fun k j g hk hg => Bool.eq_false_iff.mpr (mt (repeats_twice ht hg).mp (hfirst k j hk))

end

theorem nodes_fail {l : Line} {i : Fin 32} {e : NodeEntry} (he : (s.line l).nodes[i] = some e)
    (h : ¬ObjectConfigured s e.bound)
    (hfirst : ∀ k j f, (k = .A ∧ l = .B ∨ k = l ∧ j < i) → (s.line k).nodes[j] = some f → ObjectConfigured s f.bound) :
    (s.firstOfLines 6 fun _ _ e => !s.boundConfigured e.bound) =
      some (6, some { table := .NODE, index := l.ctorIdx, position := i.val }) := by
  refine firstOfLines_some he ?_ fun k j f hk hf => ?_
  · rw [Bool.not_eq_true', Bool.eq_false_iff, ne_eq, boundConfigured_iff]
    exact h
  · rw [Bool.not_eq_false', boundConfigured_iff]
    exact hfirst k j f hk hf

/-- Settles O52: every check passes exactly where nothing is wrong, and the first that fails names its first item. -/
theorem commitChecks : Obligations.CommitChecks := by
  unfold Obligations.CommitChecks
  intro s c1 c2 c3 c4 c5 nodes6 objects6 c7 meters8 engines8 c9 wrong6 twice meterWrong engineWrong weightWrong before hbefore
    hwrong6 htwice hmeter hengine hweight e1 e2 e3 e4 e5 en6 eo6 e7 em8 ee8 e9
  have hm8 (i : Fin 16) : s.meterMislinked i = true ↔ meterWrong i := (meterMislinked_iff i).trans (hmeter i).symm
  have he8 (i : Fin 8) : s.engineMislinked i = true ↔ engineWrong i := (engineMislinked_iff i).trans (hengine i).symm
  have hw9 (i : Fin 8) := (weightWrong_iff (s := s) i).trans (hweight i).symm
  have k1 : check1 s = none ↔ c1 := e1 ▸ check1_none_iff
  have k2 : check2 s = none ↔ c2 := e2 ▸ firstFail_ok feedWrong_iff
  have k3 : check3 s = none ↔ c3 := e3 ▸ firstFail_ok speedWrong_iff
  have k4 : check4 s = none ↔ c4 := e4 ▸ firstFail_ok levelsWrong_iff
  have k5 : check5 s = none ↔ c5 := e5 ▸ firstFail_ok tankLevelsWrong_iff
  have kn6 : (s.firstOfLines 6 fun _ _ e => !s.boundConfigured e.bound) = none ↔ nodes6 := en6 ▸ nodes_ok_iff
  have ko6 : s.firstMisbound = none ↔ objects6 := eo6 ▸ firstMisbound_none_iff hwrong6
  have k7 : (s.firstOfLines 7 fun l => (s.line l).repeats) = none ↔ c7 := e7 ▸ addresses_ok_iff htwice
  have km8 : firstFail 8 .METER s.meterMislinked = none ↔ meters8 := em8 ▸ firstFail_ok hm8
  have ke8 : firstFail 8 .ENGINE s.engineMislinked = none ↔ engines8 := ee8 ▸ firstFail_ok he8
  have k9 : check9 s = none ↔ c9 := e9 ▸ firstFail_ok hw9
  rw [commitFailure_eq]
  refine ⟨?_, fun h1 => ?_, fun h1 i hi hfirst => ?_, fun h1 h2 i hi hfirst => ?_, fun h1 h2 h3 i hi hfirst => ?_,
    fun h1 h2 h3 h4 i hi hfirst => ?_, fun h1 h2 h3 h4 h5 => ⟨fun l i e he hno hfirst => ?_,
      fun hn6 b t n hb ht hn hfirst => ?_, fun hn6 ho6 => ⟨fun l i htw hfirst => ?_, fun h7 i hi hfirst => ?_,
        fun h7 hm i hi hfirst => ?_, fun h7 hm he i hi hfirst => ?_⟩⟩⟩
  · simp only [Option.or_eq_none_iff, k1, k2, k3, k4, k5, kn6, ko6, k7, km8, ke8, k9]
  · rw [check1_some (e1 ▸ h1), Option.some_or]
  · have hit : check2 s = _ := firstFail_at feedWrong_iff hi hfirst
    simp only [k1.mpr h1, hit, Option.none_or, Option.some_or]
  · have hit : check3 s = _ := firstFail_at speedWrong_iff hi hfirst
    simp only [k1.mpr h1, k2.mpr h2, hit, Option.none_or, Option.some_or]
  · have hit : check4 s = _ := firstFail_at levelsWrong_iff hi hfirst
    simp only [k1.mpr h1, k2.mpr h2, k3.mpr h3, hit, Option.none_or, Option.some_or]
  · have hit : check5 s = _ := firstFail_at tankLevelsWrong_iff hi hfirst
    simp only [k1.mpr h1, k2.mpr h2, k3.mpr h3, k4.mpr h4, hit, Option.none_or, Option.some_or]
  · have hit := nodes_fail he hno fun k j f hk => hfirst k j f ((hbefore k j l i).mpr hk)
    simp only [k1.mpr h1, k2.mpr h2, k3.mpr h3, k4.mpr h4, k5.mpr h5, hit, Option.none_or, Option.some_or]
  · have hit := firstMisbound_some hwrong6 hb ht hn hfirst
    simp only [k1.mpr h1, k2.mpr h2, k3.mpr h3, k4.mpr h4, k5.mpr h5, kn6.mpr hn6, hit, Option.none_or, Option.some_or]
  · have hit := addresses_fail htwice htw fun k j hk => hfirst k j ((hbefore k j l i).mpr hk)
    simp only [k1.mpr h1, k2.mpr h2, k3.mpr h3, k4.mpr h4, k5.mpr h5, kn6.mpr hn6, ko6.mpr ho6, hit, Option.none_or,
      Option.some_or]
  · have hit := firstFail_at (check := 8) (table := .METER) hm8 hi hfirst
    simp only [k1.mpr h1, k2.mpr h2, k3.mpr h3, k4.mpr h4, k5.mpr h5, kn6.mpr hn6, ko6.mpr ho6, k7.mpr h7, hit,
      Option.none_or, Option.some_or]
  · have hit := firstFail_at (check := 8) (table := .ENGINE) he8 hi hfirst
    simp only [k1.mpr h1, k2.mpr h2, k3.mpr h3, k4.mpr h4, k5.mpr h5, kn6.mpr hn6, ko6.mpr ho6, k7.mpr h7, km8.mpr hm, hit,
      Option.none_or, Option.some_or]
  · have hit : check9 s = _ := firstFail_at hw9 hi hfirst
    simp only [k1.mpr h1, k2.mpr h2, k3.mpr h3, k4.mpr h4, k5.mpr h5, kn6.mpr hn6, ko6.mpr ho6, k7.mpr h7, km8.mpr hm,
      ke8.mpr he, hit, Option.none_or]

end Sys2Proof.Machine
end


section
/-! SUPPORT. A commit: what a failed one records, and the values that one which passes gives every block (O53). -/

namespace Sys2Proof.Machine

open Sys2Proof

variable {s : State}

/-- R17: a notice touches the helm record alone. -/
theorem notice_eq (p : Port) (s : State) : ∃ h, holderNotice p s = { s with helm := h } := by
  unfold holderNotice
  split
  · exact ⟨s.helm, rfl⟩
  · split
    · exact ⟨_, rfl⟩
    · exact ⟨s.helm, rfl⟩

theorem commitFailure_notice (p : Port) : (holderNotice p s).commitFailure = s.commitFailure := by
  obtain ⟨h, hs⟩ := notice_eq p s
  rw [hs]
  rfl

theorem commit_notice (p : Port) (lines : PerStation Bool) : (holderNotice p s).commit lines = s.commit lines := by
  obtain ⟨h, hs⟩ := notice_eq p s
  rw [hs]
  rfl

theorem commitConfig_fails {lines : PerStation Bool} {check : Nat} {item : Option CommitItem} (hrun : s.running = false)
    (h : s.commitFailure = some (check, item)) : decideCommitConfig lines s = commitFails check item s := by
  rw [decideCommitConfig, inConfiguring_on _ hrun, h]

theorem commitConfig_passes {lines : PerStation Bool} (hrun : s.running = false) (h : s.commitFailure = none) :
    decideCommitConfig lines s = doneWith (State.commit lines) s := by
  rw [decideCommitConfig, inConfiguring_on _ hrun, h]

/-! ## The blocks (R66, R79, R101, R119, R134) -/

theorem eq_ofFn {α : Type} {n : Nat} {v : Vector α n} {f : Fin n → α} (h : ∀ i : Fin n, v[i] = f i) : v = Vector.ofFn f := by
  ext k hk
  rw [Vector.getElem_ofFn]
  exact h ⟨k, hk⟩

theorem tank_ordered (h : s.commitFailure = none) {i : Fin 8} (hu : s.tanks[i].used = true) :
    s.tanks[i].cfg.empty < s.tanks[i].cfg.reserve ∧ s.tanks[i].cfg.reserve < s.tanks[i].cfg.low := by
  rw [commitFailure_eq] at h
  simp only [Option.or_eq_none_iff] at h
  obtain ⟨-, -, -, -, h5, -⟩ := h
  have hok : ¬TankLevelsWrong s i := (firstFail_ok tankLevelsWrong_iff).mp h5 i
  obtain ⟨h1, h2, -⟩ := not_not.mp fun hno => hok ⟨hu, hno⟩
  exact ⟨h1, h2⟩

/-- R127, R134: the state derived from NORMAL, where the levels are in order. -/
theorem deriveTankState_normal {g : TankCfg} {v : Int} (h1 : g.empty < g.reserve) (h2 : g.reserve < g.low) :
    deriveTankState g v .NORMAL =
      if v ≤ g.empty * 1000 then .EMPTY else if v ≤ g.reserve * 1000 then .RESERVE
      else if v ≤ g.low * 1000 then .LOW else if g.high * 1000 ≤ v then .HIGH else .NORMAL := by
  obtain ⟨hempty, hreserve, hlow, hnormal, hhigh⟩ := stepState_eq g v
  split_ifs with c1 c2 c3 c4
  · rw [if_pos (by omega)] at hnormal hlow hreserve
    rw [if_neg (by omega)] at hempty
    rw [deriveTankState_step hnormal, deriveTankState_step hlow, deriveTankState_step hreserve]
    exact deriveFrom_settled 5 hempty
  · rw [if_pos (by omega)] at hnormal hlow
    rw [if_neg (by omega), if_neg (by omega)] at hreserve
    rw [deriveTankState_step hnormal, deriveTankState_step hlow]
    exact deriveFrom_settled 5 hreserve
  · rw [if_pos (by omega)] at hnormal
    rw [if_neg (by omega), if_neg (by omega)] at hlow
    rw [deriveTankState_step hnormal]
    exact deriveFrom_settled 5 hlow
  · rw [if_neg (by omega), if_pos c4] at hnormal
    rw [if_neg (by omega)] at hhigh
    rw [deriveTankState_step hnormal]
    exact deriveFrom_settled 5 hhigh
  · rw [if_neg (by omega), if_neg c4] at hnormal
    exact deriveFrom_settled 5 hnormal

theorem committedTank_eq (h : s.commitFailure = none) (i : Fin 8) : s.tanks[i].commit (s.tankNodeRef i) =
    if s.tanks[i].used = true then { s.tanks[i] with
      node := if s.tanks[i].cfg.fitted = true then s.nodeOf (.tank i) else none
      soundingValid := false
      discDeadline := none
      state := some (if s.tanks[i].account.book ≤ s.tanks[i].cfg.empty * 1000 then .EMPTY
        else if s.tanks[i].account.book ≤ s.tanks[i].cfg.reserve * 1000 then .RESERVE
        else if s.tanks[i].account.book ≤ s.tanks[i].cfg.low * 1000 then .LOW
        else if s.tanks[i].cfg.high * 1000 ≤ s.tanks[i].account.book then .HIGH else .NORMAL) } else s.tanks[i] := by
  by_cases hu : s.tanks[i].used = true
  · obtain ⟨h1, h2⟩ := tank_ordered h hu
    rw [if_pos hu, Tank.commit, if_pos hu, deriveTankState_normal h1 h2]
    rfl
  · rw [if_neg hu, Tank.commit, if_neg hu]

theorem feedLevelOf_state (st : Option TankState) :
    feedLevelOf st = if st = some .EMPTY then .EMPTY else if st = some .RESERVE then .RESERVE else .FED := by
  by_cases h : st = some .EMPTY
  · rw [if_pos h, h]
    rfl
  · rw [if_neg h, feedLevelOf_not_empty h]

theorem committedEngine_eq (e : Engine) (node : Option NodeRef) (feed : FeedLevel) : e.commit node feed =
    if e.configured = true then { e with
      node := node, standby := false, nodeAvailable := false, fault := none, derate := false
      tracking := false
      feed := feed
      state := .LOST, eligible := false, aheadCap := 0, asternCap := 0, gear := .NEUTRAL
      rpm := e.cfg.idleRpm, lastGear := none, dwell := none, confirm := none, confirmed := false
      trackDeadline := none, lastReport := none, reportAt := none } else e := by
  by_cases h : e.configured = true
  · rw [Engine.commit, if_pos h, if_pos h, ← h]
    simp only [Engine.fresh, h, if_true]
  · rw [Engine.commit, if_neg h, if_neg h]

theorem committedRudder_eq (r : Rudder) (node : Option NodeRef) : r.commit node =
    if r.configured = true then { r with
      node := node, nodeAvailable := false, jam := false, state := .LOST, target := 0, commanded := 0
      jamDeadline := none, lastAngle := none } else r := by
  by_cases h : r.configured = true
  · rw [Rudder.commit, if_pos h, if_pos h, ← h]
    simp only [Rudder.fresh, h, if_true]
  · rw [Rudder.commit, if_neg h, if_neg h]

theorem committedCoupling_eq (c : Coupling) (node : Option NodeRef) : c.commit node =
    if c.used = true then { c with
      node := node, state := .UNKNOWN, nodeAvailable := false, command := .BRAKE, lastTension := none
      lastDrum := none, reportAt := none, freshness := none, deadline := none } else c := by
  by_cases h : c.used = true
  · rw [Coupling.commit, if_pos h, if_pos h, ← h]
    simp only [Coupling.fresh, h, if_true]
  · rw [Coupling.commit, if_neg h, if_neg h]

/-! ## The lines (R168) -/

theorem nodes_unhear (c : LineCtl) (i : Fin 32) :
    c.unhear.nodes[i] = c.nodes[i].map fun e => { e with state := .UNHEARD, failures := 0 } := by
  simp only [LineCtl.unhear, slot_ofFn]

/-- A line at commit before its activity is set. -/
def LineCtl.recommenced (now : Nat) (c : LineCtl) : LineCtl :=
  { ((c.abandon now).unhear).beginRounds with lineDown := false, handovers := [] }

theorem commit_eq (now : Nat) (c : LineCtl) : c.commit now =
    if (c.recommenced now).isEmpty
    then { c.recommenced now with activity := .IDLE, link := (c.recommenced now).link.rest }
    else { c.recommenced now with activity := .POLLING } := by
  rw [LineCtl.commit, LineCtl.recommenced]

theorem recommenced_isEmpty_iff {c : LineCtl} {now : Nat} :
    (c.recommenced now).isEmpty = true ↔ ∀ i : Fin 32, c.nodes[i] = none := by
  have hnodes (i : Fin 32) : (c.recommenced now).nodes[i] =
      c.nodes[i].map fun e => { e with state := .UNHEARD, failures := 0 } := nodes_unhear (c.abandon now) i
  simp only [entries_isEmpty_iff, hnodes, Option.map_eq_none_iff]

theorem beginRounds_empty {c : LineCtl} (h : ∀ i : Fin 32, c.nodes[i] = none) :
    c.beginRounds = { c with round := 0, cursor := none } := by
  have hnext : { c with round := 0 }.nextIn 0 = none := by
    refine nextIn_none_iff.mpr fun j _ => ?_
    rw [LineCtl.polls, h j]
    rfl
  rw [LineCtl.beginRounds, hnext]

theorem commit_empty {c : LineCtl} (now : Nat) (h : ∀ i : Fin 32, c.nodes[i] = none) : c.commit now =
    { (c.abandon now).unhear with
      round := 0, lineDown := false, handovers := [], activity := .IDLE, cursor := none
      link := (c.abandon now).link.rest } := by
  have hrounds : ((c.abandon now).unhear).beginRounds = { (c.abandon now).unhear with round := 0, cursor := none } := by
    refine beginRounds_empty fun i => ?_
    rw [nodes_unhear]
    exact Option.map_eq_none_iff.mpr (h i)
  rw [commit_eq, if_pos (recommenced_isEmpty_iff.mpr h), LineCtl.recommenced, hrounds]
  dsimp only [LineCtl.unhear]

theorem commit_listed {c : LineCtl} {i : Fin 32} (now : Nat) (hi : c.nodes[i] ≠ none)
    (hfirst : ∀ j < i, c.nodes[j] = none) : c.commit now =
    { (c.abandon now).unhear with
      round := 0, lineDown := false, handovers := [], activity := .POLLING, cursor := some i } := by
  have hrounds := beginRounds_cursor (c := c.abandon now) hi hfirst
  rw [commit_eq, if_neg fun hempty => hi (recommenced_isEmpty_iff.mp hempty i), LineCtl.recommenced, hrounds]

section
variable {c : LineCtl} {now : Nat} {cut : Link → Link}
  (hcut : ∀ x, cut x = match c.link with
    | .sending start stop => .stopping start (min stop (start + ((now - start) / 440 + 1) * 440)) now
    | .stopping start stop _ => .stopping start stop now
    | _ => x)
include hcut

theorem abandon_link : (c.abandon now).link = cut (.due now) := by
  rw [hcut]
  cases hl : c.link <;> simp only [LineCtl.abandon, hl] <;> rfl

theorem abandon_rest : (c.abandon now).link.rest = cut .idle := by
  rw [hcut]
  cases hl : c.link <;> simp only [LineCtl.abandon, hl] <;> rfl

end

/-- Settles O53. -/
theorem commitConfig : Obligations.CommitConfig := by
  unfold Obligations.CommitConfig
  refine ⟨fun p tag lines check item s hr hrun h => ?_,
    fun p tag lines tanks engines rudders couplings meters s t hr hrun h htanks hengines hrudders hcouplings hmeters ht => ?_,
    fun c d now cut hcut hd => ⟨fun h => ?_, fun i hi hfirst => ?_⟩⟩
  · refine exec_answer rfl hr ?_
    rw [commitConfig_fails ((running_notice p s).trans hrun) ((commitFailure_notice p).trans h)]
    obtain ⟨x, hx⟩ := notice_eq p s
    rw [hx]
    rfl
  · have htank : tanks = s.committedTanks := eq_ofFn fun i => (htanks i).trans (committedTank_eq h i).symm
    have hengine : engines = Vector.ofFn fun i : Fin 8 => s.engines[i].commit (s.nodeOf (.engine i))
        (feedLevelOf s.committedTanks[s.engines[i].cfg.feedTank].state) := by
      refine eq_ofFn fun i => (hengines i).trans ?_
      rw [committedEngine_eq, feedLevelOf_state, ← htank]
    have hrudder : rudders = Vector.ofFn fun i : Fin 8 => s.rudders[i].commit (s.nodeOf (.rudder i)) :=
      eq_ofFn fun i => (hrudders i).trans (committedRudder_eq ..).symm
    have hcoupling : couplings = Vector.ofFn fun i : Fin 24 => s.couplings[i].commit (s.nodeOf (.winch i)) :=
      eq_ofFn fun i => (hcouplings i).trans (committedCoupling_eq ..).symm
    have hmeter : meters = Vector.ofFn fun i : Fin 16 => s.meters[i].commit (s.nodeOf (.meter i)) :=
      eq_ofFn fun i => (hmeters i).trans rfl
    have hblocks : s.commitBlocks lines = t := by
      rw [ht, htank, hengine, hrudder, hcoupling, hmeter]
      rfl
    refine exec_answer rfl hr ?_
    rw [commitConfig_passes ((running_notice p s).trans hrun) ((commitFailure_notice p).trans h), doneWith, commit_notice,
      State.commit, hblocks, postIf_eq (lines.lead = true ∨ lines.helper = true ∨ lines.bow = true) _ _ _
      (by rw [Bool.or_eq_true, Bool.or_eq_true, or_assoc])]
  · rw [commit_empty now h, abandon_rest hcut, hd]
    dsimp only [LineCtl.unhear, LineCtl.abandon]
  · rw [commit_listed now hi hfirst, hd, ← abandon_link hcut]
    dsimp only [LineCtl.unhear, LineCtl.abandon]

end Sys2Proof.Machine
end


section
/-! SUPPORT. RECONFIGURE and the seconds timer (O54). -/

namespace Sys2Proof.Machine

open Sys2Proof

variable {s : State}

/-! ## The checks and the events of a reconfigure (R186) -/

theorem toList_any_iff {α : Type} {n : Nat} {v : Vector α n} {f : α → Bool} :
    v.toList.any f = true ↔ ∃ i : Fin n, f v[i] = true := by
  simp only [List.any_eq_true, Vector.mem_toList_iff, Vector.mem_iff_getElem]
  constructor
  · rintro ⟨_, ⟨k, hk, rfl⟩, h⟩
    exact ⟨⟨k, hk⟩, h⟩
  · rintro ⟨i, h⟩
    exact ⟨_, ⟨i.val, i.isLt, rfl⟩, h⟩

theorem toList_all_iff {α : Type} {n : Nat} {v : Vector α n} {f : α → Bool} :
    v.toList.all f = true ↔ ∀ i : Fin n, f v[i] = true := by
  simp only [List.all_eq_true, Vector.mem_toList_iff, Vector.mem_iff_getElem]
  constructor
  · exact fun h i => h _ ⟨i.val, i.isLt, rfl⟩
  · rintro h _ ⟨k, hk, rfl⟩
    exact h ⟨k, hk⟩

theorem atRest_iff : s.atRest = true ↔ AtRest s := by
  have hengine (e : Engine) : (!e.configured || (decide (e.gear = .NEUTRAL) && e.dwell.isNone)) = true ↔
      (e.configured = true → e.gear = .NEUTRAL ∧ e.dwell = none) := by
    cases e.configured <;> simp
  have hchannel (c : Channel) : (!c.isOpen) = true ↔ c.state = .IDLE := by
    simp [Channel.isOpen]
  simp only [State.atRest, Bool.and_eq_true, toList_all_iff, hengine, hchannel]

theorem decideReconfigure_holder {p : Port} {b : Bridge} (hh : HoldsHelm p b s) :
    decideReconfigure p s = if s.atRest then doneWith State.reconfigure s else answer .NOT_READY s := by
  rw [decideReconfigure, holderOnly_holder _ hh]

/-- R186: the state after a reconfigure, before a claim in flight is answered. -/
def State.reconfigured (s : State) : State :=
  (((((s.reconfigureBlocks.post .PHASE_CHANGED).post .HELM_CHANGED).postIf s.enginesChange .ENGINE_CHANGED).postIf
    s.ruddersChange .RUDDER_CHANGED).postIf s.couplingsChange .COUPLING_CHANGED).postIf
    (decide (s.ceilings ≠ { c := 1000, k := 1000 })) .CEILING_CHANGED

theorem reconfigure_eq : s.reconfigure = answerClaim s.helm.requester .BAD_PHASE s.reconfigured := rfl

theorem slot_postIf (b : Bool) (k : EventKind) (p : Port) (s : State) : ((s.postIf b k).port p).slot = (s.port p).slot := by
  cases b <;> cases p <;> rfl

theorem slot_post (k : EventKind) (p : Port) (s : State) : ((s.post k).port p).slot = (s.port p).slot := by
  cases p <;> rfl

theorem enginesChange_iff : s.enginesChange = true ↔ ∃ i : Fin 8, s.engines[i].reconfigure.state ≠ s.engines[i].state := by
  simp only [State.enginesChange, toList_any_iff, decide_eq_true_eq]

theorem ruddersChange_iff : s.ruddersChange = true ↔ ∃ i : Fin 8, s.rudders[i].reconfigure.state ≠ s.rudders[i].state := by
  simp only [State.ruddersChange, toList_any_iff, decide_eq_true_eq]

theorem couplingsChange_iff : s.couplingsChange = true ↔
    ∃ i : Fin 24, s.couplings[i].reconfigure.state ≠ s.couplings[i].state := by
  simp only [State.couplingsChange, toList_any_iff, decide_eq_true_eq]

theorem linesHeard_iff : (!s.lines.a.heard.isEmpty || !s.lines.b.heard.isEmpty) = true ↔
    ∃ (l : Line) (i : Fin 32) (e : NodeEntry), (s.line l).nodes[i] = some e ∧ e.state ≠ .UNHEARD := by
  simp only [Bool.or_eq_true, heard_isEmpty_iff, Option.any_eq_true, decide_eq_true_eq]
  constructor
  · rintro (h | h)
    · exact ⟨.A, h⟩
    · exact ⟨.B, h⟩
  · rintro ⟨l, h⟩
    cases l with
    | A => exact .inl h
    | B => exact .inr h

theorem postIf_true (k : EventKind) (s : State) : s.postIf true k = s.post k := rfl

theorem postIf_false (k : EventKind) (s : State) : s.postIf false k = s := rfl

theorem reconfigureBlocks_eq {n : Bool} (hn : n = (!s.lines.a.heard.isEmpty || !s.lines.b.heard.isEmpty)) :
    s.reconfigureBlocks = State.postIf n .NODE_CHANGED { s with
      helm := s.helm.reconfigure
      order := Order.por
      passTimer := none
      engineResult := none
      rudderResult := none
      tripLatch := { lead := false, helper := false, bow := false }
      engines := Vector.ofFn fun i : Fin 8 => s.engines[i].reconfigure
      rudders := Vector.ofFn fun i : Fin 8 => s.rudders[i].reconfigure
      couplings := Vector.ofFn fun i : Fin 24 => s.couplings[i].reconfigure
      ceilings := { c := 1000, k := 1000 }
      meters := Vector.ofFn fun i : Fin 16 => s.meters[i].reconfigure
      estimationTimer := none
      tanks := Vector.ofFn fun i : Fin 8 => s.tanks[i].reconfigure
      lines := { a := s.lines.a.reconfigure s.now, b := s.lines.b.reconfigure s.now }
      phase := { s.phase with phase := .CONFIGURING, secondsTimer := none } } := by
  rw [State.reconfigureBlocks, State.reconfigureLines, ← hn]
  cases n with
  | false => simp only [postIf_false]
  | true => simp only [postIf_true, State.post]

/-- Posts touch no request slot. -/
theorem reconfigured_slot (p : Port) : (s.reconfigured.port p).slot = (s.port p).slot := by
  rw [State.reconfigured, slot_postIf, slot_postIf, slot_postIf, slot_postIf, slot_post, slot_post,
    reconfigureBlocks_eq rfl, slot_postIf]
  dsimp only [State.port]

/-! ## The blocks (R66, R79, R102, R119, R135, R168) -/

theorem reconfigure_engine {e : Engine} (h : e.configured = true) : e.reconfigure = { e with
    nodeAvailable := false, eligible := false, aheadCap := 0, asternCap := 0
    state := if e.standby = true then .STANDBY else .LOST } := by
  cases hs : e.standby <;> simp [Engine.reconfigure, Engine.rederive, Engine.derive, stateCap, h, hs]

theorem reconfigure_rudder {r : Rudder} (h : r.configured = true) : r.reconfigure = { r with
    nodeAvailable := false, jamDeadline := none
    state := if r.jam = true then .JAMMED else .LOST } := by
  cases hj : r.jam <;> simp [Rudder.reconfigure, Rudder.nodeChange, Rudder.derive, h, hj]

theorem reconfigure_coupling {c : Coupling} (h : c.used = true) : c.reconfigure = { c with
    nodeAvailable := false, freshness := none, deadline := none
    state := if c.state.watched = true then .UNKNOWN else c.state
    command := if c.state.watched = true then .BRAKE else c.command } := by
  cases hw : c.state.watched <;> simp [Coupling.reconfigure, Coupling.enter, commandOf, h, hw]

theorem reconfigure_line (y : LineCtl) (now : Nat) : y.reconfigure now = { y.unhear with
    activity := .IDLE, position := none, attempt := none, lateTail := none, cursor := none, handovers := []
    link := (y.abandon now).link.rest } := rfl

/-- R167, R168: how a line's link is left where nothing is due. -/
theorem abandon_rest_cases (y : LineCtl) (now : Nat) :
    (∀ start stop, y.link = .sending start stop → (y.abandon now).link.rest =
      .stopping start (min stop (start + ((now - start) / 440 + 1) * 440)) now)
    ∧ (∀ start stop since, y.link = .stopping start stop since → (y.abandon now).link.rest = .stopping start stop now)
    ∧ ((∀ start stop, y.link ≠ .sending start stop) → (∀ start stop since, y.link ≠ .stopping start stop since) →
      (y.abandon now).link.rest = .idle) := by
  refine ⟨fun start stop h => ?_, fun start stop since h => ?_, fun h1 h2 => ?_⟩
  · simp only [LineCtl.abandon, h, Link.rest, charEnd, charTime]
  · simp only [LineCtl.abandon, h, Link.rest]
  · cases h : y.link with
    | sending start stop => exact absurd h (h1 start stop)
    | stopping start stop since => exact absurd h (h2 start stop since)
    | _ => simp only [LineCtl.abandon, h, Link.rest]

/-! ## The seconds timer (R181) -/

theorem exec_seconds {d : Nat} (h : s.inReset = false) (hd : s.phase.secondsTimer = some d) :
    exec .secondsTimerExpiry s = .next (secondStep d (s.reach d)) := by
  rw [exec, execSecondsTimerExpiry, live_awake h, hd, onExpiry_some]

/-- Settles O54. -/
theorem reconfigureAndSeconds : Obligations.ReconfigureAndSeconds := by
  unfold Obligations.ReconfigureAndSeconds
  refine ⟨fun p b tag s hr hh => ⟨fun hrest => ?_, fun hrest => ?_⟩, fun e r c l s t he hrud hc hl ht => ?_,
    fun n engines rudders couplings meters tanks s hn hengines hrudders hcouplings hmeters htanks => ?_,
    fun e r c m t y now => ⟨reconfigure_engine, reconfigure_rudder, reconfigure_coupling, fun h => if_pos h, fun h => if_pos h, fun h => ?_,
      fun h => ?_, fun h => ?_, fun h => ?_, fun h => ?_, ?_⟩,
    fun d s h hd => exec_seconds h hd, fun s hd => exec_absent (d := fun s => s.phase.secondsTimer) hd⟩
  · refine exec_holder rfl hr hh ?_
    have hat : s.heard.atRest = true := atRest_iff.mpr hrest
    rw [decideReconfigure_holder (holdsHelm_heard hh), if_pos hat]
    rfl
  · refine exec_holder rfl hr hh ?_
    have hat : ¬s.heard.atRest = true := mt atRest_iff.mp hrest
    rw [decideReconfigure_holder (holdsHelm_heard hh), if_neg hat]
    rfl
  · have hsame : s.reconfigured = t := by
      have hce : s.enginesChange = e := Bool.eq_iff_iff.mpr (enginesChange_iff.trans he.symm)
      have hcr : s.ruddersChange = r := Bool.eq_iff_iff.mpr (ruddersChange_iff.trans hrud.symm)
      have hcc : s.couplingsChange = c := Bool.eq_iff_iff.mpr (couplingsChange_iff.trans hc.symm)
      have hcl : decide (s.ceilings ≠ { c := 1000, k := 1000 }) = l :=
        Bool.eq_iff_iff.mpr (decide_eq_true_iff.trans hl.symm)
      rw [State.reconfigured, hce, hcr, hcc, hcl, ht]
    refine ⟨fun hnone => ?_, fun h q x hq => ?_⟩
    · rw [reconfigure_eq, hnone, hsame]
      rfl
    · obtain ⟨-, -, hrequester, -, hslot⟩ := hq
      rw [reconfigure_eq, hrequester, answerClaim_held ((reconfigured_slot _).trans hslot), hsame]
  · have hheard : n = (!s.lines.a.heard.isEmpty || !s.lines.b.heard.isEmpty) :=
      Bool.eq_iff_iff.mpr (hn.trans linesHeard_iff.symm)
    rw [reconfigureBlocks_eq hheard, eq_ofFn hengines, eq_ofFn hrudders, eq_ofFn hcouplings, eq_ofFn hmeters, eq_ofFn htanks]
    rfl
  · exact if_neg (ne_true_of h)
  · exact if_neg (ne_true_of h)
  · rw [Coupling.reconfigure, h]
    rfl
  · exact if_neg (ne_true_of h)
  · exact if_neg (ne_true_of h)
  · obtain ⟨hsending, hstopping, hother⟩ := abandon_rest_cases y now
    rw [reconfigure_line, LineCtl.unhear]
    cases hl : y.link with
    | sending start stop => rw [hsending start stop hl]
    | stopping start stop since => rw [hstopping start stop since hl]
    | idle => rw [hother (by rw [hl]; exact nofun) (by rw [hl]; exact nofun)]
    | due since => rw [hother (by rw [hl]; exact nofun) (by rw [hl]; exact nofun)]
    | window t o rx => rw [hother (by rw [hl]; exact nofun) (by rw [hl]; exact nofun)]

end Sys2Proof.Machine
end


section
/-! SUPPORT. The encodings of read bodies (O21): numbers, optional fields, deadlines and ages. -/

namespace Sys2Proof.Machine

open Sys2Proof

/-! ## Numbers (R188) -/

theorem be_foldl (n v a : Nat) :
    (be n v).foldl (fun a b => a * 256 + b.toNat) a = a * 256 ^ n + v % 256 ^ n := by
  induction n generalizing a with
  | zero => simp [be, Nat.mod_one]
  | succ n ih =>
    have hbyte : (BitVec.ofNat 8 (v / 256 ^ n)).toNat = v / 256 ^ n % 256 := BitVec.toNat_ofNat _ _
    rw [be, List.foldl_cons, ih, hbyte, Nat.pow_succ, Nat.mod_mul]
    ring

theorem be_value (n v : Nat) : (be n v).foldl (fun a b => a * 256 + b.toNat) 0 = v % 256 ^ n := by
  rw [be_foldl, Nat.zero_mul, Nat.zero_add]

theorem beInt_value (n : Nat) (v : Int) :
    (((beInt n v).foldl (fun a b => a * 256 + b.toNat) 0 : Nat) : Int) = v % (256 ^ n : Nat) := by
  have hpos : (0 : Int) < (256 ^ n : Nat) := by exact_mod_cast Nat.pow_pos (by decide)
  have hcast := Int.toNat_of_nonneg (Int.emod_nonneg v hpos.ne')
  have hlt := Int.emod_lt_of_pos v hpos
  have hnat : (v % (256 ^ n : Nat)).toNat < 256 ^ n := by exact_mod_cast hcast.symm ▸ hlt
  rw [beInt, be_value, Nat.mod_eq_of_lt hnat, hcast]

/-! ## Times (R46, R81, R188; log 11) -/

theorem msOf_whole {u : Nat} (h : u % 2304 = 0) : msOf u = u / 2304 := if_pos h

theorem msOf_near (u : Nat) : msOf u = u / 2304 ∨ msOf u = u / 2304 + 1 := by
  have hunits : unitsPerMs = 2304 := rfl
  unfold msOf
  rw [hunits]
  split_ifs
  · exact .inl rfl
  · exact .inr rfl
  · exact .inl rfl

/-! ## Layouts -/

theorem slice_of_laidOut {body x : List Byte} {size place width : Nat} {fields : List (Nat × List Byte)}
    (h : LaidOut body size fields) (i : Nat) (hi : fields[i]? = some (place, x)) (hx : x.length = width) :
    slice body place width = x := by
  subst hx
  exact h.2 (place, x) (List.mem_of_getElem? hi)

theorem encBridge_length (b : Option Bridge) : (encBridge b).length = 2 := by cases b <;> rfl

theorem encBridge_eq (b : Option Bridge) :
    encBridge b = if b = none then [0, 0] else if b = some .L then [1, 0] else [1, 1] := by
  match b with
  | none => rfl
  | some .L => rfl
  | some .H => rfl

theorem flag_eq (b : Bool) : flag b = if b = true then [1] else [0] := by cases b <;> rfl

/-! ## The lowest index that sets a ceiling (R100) -/

theorem settingIndex_full (f : Coupling → Option Nat) (v : Vector Coupling 24) : settingIndex f v 1000 = none := rfl

section
variable {f : Coupling → Option Nat} {v : Vector Coupling 24} {c : Nat}

theorem settingIndex_none (hc : c ≠ 1000) (h : ∀ i : Fin 24, f v[i] ≠ some c) : settingIndex f v c = none := by
  rw [settingIndex, if_neg hc, ← Fin.find?_eq_find?_finRange, Fin.find?_eq_none_iff]
  exact fun i => decide_eq_false (h i)

theorem settingIndex_some {i : Fin 24} (hc : c ≠ 1000) (hi : f v[i] = some c) (hfirst : ∀ j < i, f v[j] ≠ some c) :
    settingIndex f v c = some i := by
  rw [settingIndex, if_neg hc, ← Fin.find?_eq_find?_finRange, Fin.find?_eq_some_iff]
  exact ⟨decide_eq_true hi, fun j hj => decide_eq_false (hfirst j hj)⟩

end

/-! ## The bodies of 12.3 -/

theorem helmBody_laidOut (s : State) : LaidOut (helmBody s) 26
    [(0, enumByte s.helm.state.ctorIdx), (1, encBridge s.helm.holder), (3, encBridge s.helm.requester),
     (5, encDeadline s.now s.helm.queryDeadline), (10, encDeadline s.now s.helm.silenceDeadline),
     (15, encBridge s.helm.lastHolder), (17, be 2 s.helm.takeOvers),
     (19, enumByte s.helm.policyL.ctorIdx ++ enumByte s.helm.policyH.ctorIdx), (21, beInt 2 s.order.thrust),
     (23, beInt 2 s.order.turn), (25, enumByte s.order.mode.ctorIdx)] :=
  laidOut_of_placed (by simp [helmBody]) (by simp [Placed, encBridge_length])

theorem flatMap_length {α : Type} {n : Nat} {enc : α → List Byte} (h : ∀ x, (enc x).length = n) (l : List α) :
    (l.flatMap enc).length = l.length * n := by
  induction l with
  | nil => simp
  | cons x l ih => rw [List.flatMap_cons, List.length_append, h, ih, List.length_cons, Nat.succ_mul, Nat.add_comm]

theorem vector_eight {α : Type} (v : Vector α 8) : v.toList =
    [v[(0 : Fin 8)], v[(1 : Fin 8)], v[(2 : Fin 8)], v[(3 : Fin 8)], v[(4 : Fin 8)], v[(5 : Fin 8)], v[(6 : Fin 8)],
      v[(7 : Fin 8)]] := by
  refine List.ext_getElem (by simp) fun k h1 h2 => ?_
  rw [Vector.getElem_toList]
  match k, h2 with
  | 0, _ | 1, _ | 2, _ | 3, _ | 4, _ | 5, _ | 6, _ | 7, _ => rfl

/-- The allocation record, with the eight shares one after another. -/
theorem allocationBody_laidOut (s : State) : LaidOut (allocationBody s) 44
    [(0, be 4 s.alloc.passNumber), (4, beInt 2 s.alloc.tLim), (6, beInt 2 s.alloc.uLim), (8, be 2 s.alloc.ceilC),
     (10, be 2 s.alloc.ceilK), (12, enumByte s.alloc.mode.ctorIdx), (13, be 2 s.alloc.wCfg), (15, be 2 s.alloc.wAvail),
     (17, be 2 s.alloc.deficit), (19, beInt 2 s.alloc.shares[(0 : Fin 8)]), (21, beInt 2 s.alloc.shares[(1 : Fin 8)]),
     (23, beInt 2 s.alloc.shares[(2 : Fin 8)]), (25, beInt 2 s.alloc.shares[(3 : Fin 8)]),
     (27, beInt 2 s.alloc.shares[(4 : Fin 8)]), (29, beInt 2 s.alloc.shares[(5 : Fin 8)]),
     (31, beInt 2 s.alloc.shares[(6 : Fin 8)]), (33, beInt 2 s.alloc.shares[(7 : Fin 8)]),
     (35, be 2 s.alloc.gains.lead ++ be 2 s.alloc.gains.helper ++ be 2 s.alloc.gains.bow), (41, beInt 2 s.alloc.lateral),
     (43, be 1 s.alloc.rounds)] :=
  laidOut_of_placed (by simp only [allocationBody, vector_eight]; simp) (by simp [Placed])

theorem recordBody_laidOut (n : Nat) (r : MovementRecord) : LaidOut (recordBody n r) 32
    [(0, be 1 n), (1, be 2 (r.number.getD 0)), (3, enumByte ((r.kind.map MovementKind.ctorIdx).getD 0)),
     (4, encOpt 1 (fun t : Fin 8 => be 1 t.val) r.source), (6, be 1 ((r.destination.map Fin.val).getD 0)),
     (7, enumByte ((r.mode.map MovementMode.ctorIdx).getD 0)), (8, encOpt 3 (be 3) r.target), (12, be 4 r.moved),
     (16, be 4 r.runOn), (20, flag r.overflow), (21, be 2 r.wraps),
     (23, enumByte ((r.stopReason.map StopReason.ctorIdx).getD 0)), (24, be 4 (r.startSecond.getD 0)),
     (28, be 4 r.endSecond)] :=
  laidOut_of_placed (by simp [recordBody]) (by simp [Placed])

theorem invalidBody_none (n : Nat) : invalidBody n none = [BitVec.ofNat 8 n, 0, 0, 0, 0] := by
  simp [invalidBody, be, encOpt]

theorem invalidBody_some (n : Nat) (x : CommitItem) : invalidBody n (some x) =
    [BitVec.ofNat 8 n, 1, BitVec.ofNat 8 x.table.ctorIdx, BitVec.ofNat 8 x.index, BitVec.ofNat 8 x.position] := by
  simp [invalidBody, be, encOpt, enumByte]

theorem outcomeBody_length (o : Option CommitOutcome) : (outcomeBody o).length = 7 := by
  match o with
  | none => rfl
  | some .done => rfl
  | some (.invalid n none) => simp [outcomeBody, invalidBody_none]
  | some (.invalid n (some x)) => simp [outcomeBody, invalidBody_some]

theorem phaseBody_laidOut (s : State) : LaidOut (phaseBody s) 12
    [(0, enumByte s.phase.phase.ctorIdx), (1, be 4 s.phase.seconds), (5, outcomeBody s.phase.lastCommit)] :=
  laidOut_of_placed (by simp [phaseBody]) (by simp [Placed, outcomeBody_length])

end Sys2Proof.Machine
end


section
/-! SUPPORT. The laid-out bodies of the read requests, one after another (O21). -/

namespace Sys2Proof.Machine

open Sys2Proof

/-! ## Bodies whose fields stand one after another in their definition -/

theorem paramsBody_laidOut (s : State) : LaidOut (paramsBody s) 15
    [(0, be 2 s.params.diffGain), (2, be 2 s.params.fallbackGain), (4, be 2 s.params.bowGain),
     (6, be 1 s.params.engageThreshold), (7, be 2 s.params.releaseThreshold), (9, be 2 s.params.strainFactor),
     (11, be 2 s.params.gearDwell), (13, be 2 s.params.trackingBand)] :=
  laidOut_of_placed (by simp [paramsBody]) (by simp [Placed])

theorem rudderBody_laidOut (r : Rudder) (now : Nat) : LaidOut (r.body now) 24
    [(0, flag r.configured), (1, [BitVec.ofNat 8 r.cfg.station.ctorIdx]), (2, [BitVec.ofNat 8 r.cfg.kind.ctorIdx]),
     (3, be 2 r.cfg.maxAngle), (5, be 1 r.cfg.slew), (6, encNode r.node), (9, flag r.nodeAvailable),
     (10, flag r.jam), (11, [BitVec.ofNat 8 r.state.ctorIdx]), (12, beInt 2 r.target), (14, beInt 2 r.commanded),
     (16, encDeadline now r.jamDeadline), (21, encOpt 2 (beInt 2) r.lastAngle)] :=
  laidOut_of_placed (by simp [Rudder.body, enumByte]) (by simp [Placed])

theorem couplingBody_laidOut (c : Coupling) (now : Nat) : LaidOut (c.body now) 43
    [(0, flag c.used), (1, [BitVec.ofNat 8 c.cfg.kind.ctorIdx]), (2, be 2 c.cfg.slackLevel),
     (4, be 2 c.cfg.target), (6, be 2 c.cfg.band), (8, be 2 c.cfg.strainLevel), (10, be 2 c.cfg.recoveryLevel),
     (12, be 2 c.cfg.renderLevel), (14, flag c.cfg.autoTend), (15, encNode c.node),
     (18, [BitVec.ofNat 8 c.state.ctorIdx]), (19, flag c.nodeAvailable), (20, [BitVec.ofNat 8 c.command.ctorIdx]),
     (21, encOpt 2 (be 2) c.lastTension),
     (24, encOpt 1 (fun x : DrumStatus => [BitVec.ofNat 8 x.ctorIdx]) c.lastDrum),
     (26, be 2 (ageMs now c.reportAt)), (28, encDeadline now c.freshness), (33, encStateDeadline now c.deadline),
     (39, be 2 c.overloads), (41, be 2 c.peak)] :=
  laidOut_of_placed (by simp [Coupling.body, CouplingCfg.body, enumByte]) (by simp [Placed])

theorem ceilingsBody_laidOut (s : State) : LaidOut (ceilingsBody s) 12
    [(0, be 2 s.ceilings.c), (2, be 2 s.ceilings.k), (4, encOpt 1 (fun i : Fin 24 => be 1 i.val)
        (settingIndex (Coupling.thrust s.params) s.couplings s.ceilings.c)),
     (6, encOpt 1 (fun i : Fin 24 => be 1 i.val) (settingIndex Coupling.turn s.couplings s.ceilings.k)),
     (8, be 2 s.params.releaseThreshold), (10, be 2 s.params.strainFactor)] :=
  laidOut_of_placed (by simp [ceilingsBody]) (by simp [Placed])

theorem channelBody_laidOut (c : Channel) (now next : Nat) : LaidOut (c.body now ++ be 2 next) 54
    [(0, [BitVec.ofNat 8 c.state.ctorIdx]),
     (1, encOpt 1 (fun x : MovementKind => [BitVec.ofNat 8 x.ctorIdx]) c.kind),
     (3, encOpt 1 (fun i : Fin 8 => be 1 i.val) c.source),
     (5, encOpt 1 (fun i : Fin 8 => be 1 i.val) c.destination),
     (7, encOpt 1 (fun i : Fin 16 => be 1 i.val) c.meter), (9, encNode c.pump),
     (12, encOpt 1 (fun x : MovementMode => [BitVec.ofNat 8 x.ctorIdx]) c.mode), (14, encOpt 3 (be 3) c.target),
     (18, be 4 c.moved), (22, flag c.overflow), (23, be 2 c.wraps), (25, be 4 c.runOn),
     (29, encOpt 1 (fun x : StopReason => [BitVec.ofNat 8 x.ctorIdx]) c.stopReason),
     (31, encOpt 4 (be 4) c.stopSecond), (36, encDeadline now c.settling), (41, be 1 c.zeroReports),
     (42, encOpt 2 (be 2) c.number), (45, encOpt 4 (be 4) c.startSecond),
     (50, encOpt 1 (fun x : PumpStatus => [BitVec.ofNat 8 x.ctorIdx]) c.lastPump), (52, be 2 next)] :=
  laidOut_of_placed (by simp [Channel.body, Channel.openedBody, enumByte]) (by simp [Placed])

theorem encOpt_channelReport_length (o : Option ChannelReport) :
    (encOpt 4 (fun r : ChannelReport => be 2 r.count ++ encTemp r.temp) o).length = 5 :=
  encOpt_length channelReportBody_length o

theorem meterBody_laidOut (m : Meter) : LaidOut m.body 57
    [(0, flag m.used), (1, [BitVec.ofNat 8 m.cfg.kind.ctorIdx]),
     (2, encOpt 1 (fun i : Fin 8 => be 1 i.val) m.cfg.engine), (4, be 2 m.cfg.weight1), (6, be 2 m.cfg.weight2),
     (8, be 2 m.cfg.alpha), (10, be 2 m.cfg.limit), (12, encNode m.node), (15, encOpt 2 (be 2) m.ch1.baseline),
     (18, encOpt 2 (be 2) m.ch2.baseline), (21, be 3 m.ch1.residue), (24, be 3 m.ch2.residue),
     (27, flag m.ch1.tempInvalid), (28, flag m.ch2.tempInvalid),
     (29, encOpt 4 (fun r : ChannelReport => be 2 r.count ++ encTemp r.temp) m.ch1.last),
     (34, encOpt 4 (fun r : ChannelReport => be 2 r.count ++ encTemp r.temp) m.ch2.last),
     (39, flag m.nodeAvailable), (40, flag m.heard), (41, be 4 m.excess), (45, be 2 m.implausible),
     (47, be 4 m.stray), (51, flag m.estimating), (52, be 2 m.estResidue), (54, be 2 m.heldRack),
     (56, be 1 m.rackHold)] :=
  laidOut_of_placed (by simp [Meter.body, MeterCfg.body, Meter.channelsBody, enumByte]; rfl)
    (by simp [Placed, encOpt_channelReport_length])

theorem bitsPerSecond_eq (r : Rate) : r.bitsPerSecond = if r = .r115200 then 115200 else 460800 := by cases r <;> rfl

theorem encOpt_slot_length (o : Option Slot) : (encOpt 2 (fun x : Slot => [x.code, x.tag]) o).length = 3 :=
  encOpt_length (n := 2) (fun _ => rfl) o

theorem portBody_laidOut (r : PortRec) : LaidOut r.body 15
    [(0, be 3 (if r.rate = .r115200 then 115200 else 460800)), (3, be 2 r.badCheck), (5, be 2 r.truncated),
     (7, be 2 r.oversize), (9, be 2 r.busy), (11, encOpt 2 (fun x : Slot => [x.code, x.tag]) r.slot),
     (14, be 1 r.replies.length)] :=
  laidOut_of_placed (by simp [PortRec.body, bitsPerSecond_eq]) (by simp [Placed, encOpt_slot_length])

/-! ## The engine slot with its totals -/

theorem enumByte_faultCode (f : Option FaultCause) :
    enumByte (faultCode f) = [if f = none then 0 else if f = some .SHUTDOWN then 1 else 2] := by
  match f with
  | none => rfl
  | some .SHUTDOWN => rfl
  | some .GEAR_MISMATCH => rfl

theorem encOpt_engineReport_length (o : Option EngineReport) :
    (encOpt 6 (fun r : EngineReport => be 2 r.rpm ++ [BitVec.ofNat 8 r.gear.ctorIdx] ++ be 2 r.rack
      ++ [BitVec.ofNat 8 r.fault.ctorIdx]) o).length = 7 :=
  encOpt_length engineReportBody_length o

theorem engineBody_laidOut (e : Engine) (t : EngineTotals) (now : Nat) : LaidOut (e.body now ++ t.body) 83
    [(0, flag e.configured), (1, [BitVec.ofNat 8 e.cfg.station.ctorIdx]), (2, [BitVec.ofNat 8 e.cfg.axis.ctorIdx]),
     (3, [BitVec.ofNat 8 e.cfg.side.ctorIdx]), (4, be 1 e.cfg.weight), (5, be 2 e.cfg.idleRpm),
     (7, be 2 e.cfg.maxRpm), (9, be 2 e.cfg.upRamp), (11, be 2 e.cfg.downRamp), (13, be 2 e.cfg.asternLimit),
     (15, be 2 e.cfg.economyCap), (17, be 2 e.cfg.ratedRate), (19, be 1 e.cfg.feedTank.val),
     (20, encOpt 1 (fun i : Fin 16 => be 1 i.val) e.cfg.meter), (22, encNode e.node), (25, flag e.standby),
     (26, flag e.nodeAvailable), (27, [if e.fault = none then 0 else if e.fault = some .SHUTDOWN then 1 else 2]),
     (28, flag e.derate), (29, flag e.tracking), (30, [BitVec.ofNat 8 e.feed.ctorIdx]),
     (31, [BitVec.ofNat 8 e.state.ctorIdx]), (32, flag e.eligible), (33, be 2 e.aheadCap), (35, be 2 e.asternCap),
     (37, [BitVec.ofNat 8 e.gear.ctorIdx]), (38, be 2 e.rpm),
     (40, encOpt 1 (fun x : Engaged => [BitVec.ofNat 8 x.ctorIdx]) e.lastGear), (42, encDeadline now e.dwell),
     (47, encDeadline now e.confirm), (52, flag e.confirmed), (53, encDeadline now e.trackDeadline),
     (58, encOpt 6 (fun r : EngineReport => be 2 r.rpm ++ [BitVec.ofNat 8 r.gear.ctorIdx] ++ be 2 r.rack
        ++ [BitVec.ofNat 8 r.fault.ctorIdx]) e.lastReport), (65, be 2 (ageMs now e.reportAt)),
     (67, beInt 6 t.metered), (73, be 6 t.estimated), (79, be 4 t.unaccounted)] :=
  laidOut_of_placed
    (by simp only [Engine.body, Engine.conditionsBody, EngineCfg.body, EngineTotals.body, enumByte_faultCode]
        simp [enumByte]; rfl)
    (by simp only [Placed, encOpt_engineReport_length]; simp)

/-! ## The station view -/

theorem mainUsable_eq (s : State) (st : Station) : s.mainUsable st = decide (∃ i : Fin 8,
    s.rudders[i].configured = true ∧ s.rudders[i].cfg.kind = .MAIN ∧ s.rudders[i].cfg.station = st
      ∧ s.rudders[i].state = .ONLINE) := by
  rw [Bool.eq_iff_iff, mainUsable_iff, decide_eq_true_eq]

theorem steeringBody_laidOut (s : State) : LaidOut (steeringBody s) 19
    [(0, flag (decide (∃ i : Fin 8, s.rudders[i].configured = true ∧ s.rudders[i].cfg.kind = .MAIN
        ∧ s.rudders[i].cfg.station = .LEAD ∧ s.rudders[i].state = .ONLINE))), (1, flag s.steering.backing.lead),
     (2, be 2 s.steering.gains.lead),
     (4, flag (decide (∃ i : Fin 8, s.rudders[i].configured = true ∧ s.rudders[i].cfg.kind = .MAIN
        ∧ s.rudders[i].cfg.station = .HELPER ∧ s.rudders[i].state = .ONLINE))),
     (5, flag s.steering.backing.helper), (6, be 2 s.steering.gains.helper),
     (8, flag (decide (∃ i : Fin 8, s.rudders[i].configured = true ∧ s.rudders[i].cfg.kind = .MAIN
        ∧ s.rudders[i].cfg.station = .BOW ∧ s.rudders[i].state = .ONLINE))), (9, flag s.steering.backing.bow),
     (10, be 2 s.steering.gains.bow), (12, beInt 2 s.steering.uLim),
     (14, [BitVec.ofNat 8 s.steering.mode.ctorIdx]), (15, be 4 s.steering.passNumber)] := by
  simp only [← mainUsable_eq]
  exact laidOut_of_placed (by simp [steeringBody, stationBody, enumByte, PerStation.get]) (by simp [Placed])

end Sys2Proof.Machine
end


section
/-! SUPPORT. The bodies of O21 with a value worked out from more than one place: a tank's, a line's, a node's; then O21. -/

namespace Sys2Proof.Machine

open Sys2Proof

/-! ## The tank (R121, R125, R137) -/

theorem levelUsed_eq_ite (t : Tank) : t.levelUsed =
    if t.cfg.source = .SOUNDING ∧ t.soundingValid = true ∧ t.sounding ≠ none then (t.sounding.getD 0 : Int) * 1000
    else t.account.book := by
  rw [levelUsed_eq]
  cases t.sounding <;> simp

theorem ullage_eq (t : Tank) : t.ullage =
    max 0 (min ((t.cfg.capacity : Int) * 1000) ((t.cfg.capacity : Int) * 1000 - t.account.book)) := rfl

theorem claimsTank_iff_notIdle (c : Channel) (i : Fin 8) :
    c.claimsTank i = true ↔ c.state ≠ .IDLE ∧ (c.source = some i ∨ c.destination = some i) := by
  rw [claimsTank_iff, Channel.isOpen, decide_eq_true_iff, or_comm]

theorem channelWhere_eq (s : State) (f : Channel → Bool) : s.channelWhere f =
    if f s.channels[0] = true then some 0 else if f s.channels[1] = true then some 1 else none := by
  have hfin : List.finRange 2 = [0, 1] := by decide
  cases h0 : f s.channels[0] <;> cases h1 : f s.channels[1] <;> simp [State.channelWhere, hfin, h0, h1]

theorem claiming_eq (s : State) (i : Fin 8) :
    encOpt 1 (fun c : Fin 2 => be 1 c.val) (s.channelWhere fun c => c.claimsTank i) =
      if s.channels[0].state ≠ .IDLE ∧ (s.channels[0].source = some i ∨ s.channels[0].destination = some i) then [1, 0]
      else if s.channels[1].state ≠ .IDLE ∧ (s.channels[1].source = some i ∨ s.channels[1].destination = some i) then [1, 1]
      else [0, 0] := by
  rw [channelWhere_eq]
  simp only [claimsTank_iff_notIdle]
  split_ifs
  · rfl
  · rfl
  · rfl

/-- The claiming channel in a body (R121). -/
theorem claiming_length (s : State) (i : Fin 8) :
    (encOpt 1 (fun c : Fin 2 => be 1 c.val) (s.channelWhere fun c => c.claimsTank i)).length = 2 :=
  encOpt_index_length _

theorem tankBody_laidOut (s : State) (i : Fin 8) (t : Tank) (ht : t = s.tanks[i]) : LaidOut (tankBody s i) 84
    [(0, flag t.used), (1, [BitVec.ofNat 8 t.cfg.station.ctorIdx]), (2, be 3 t.cfg.capacity), (5, be 3 t.cfg.high),
     (8, be 3 t.cfg.low), (11, be 3 t.cfg.reserve), (14, be 3 t.cfg.empty), (17, be 2 t.cfg.hysteresis),
     (19, flag t.cfg.fitted), (20, [BitVec.ofNat 8 t.cfg.source.ctorIdx]), (21, be 2 t.cfg.limit),
     (23, encNode t.node), (26, beInt 4 t.account.book), (30, beInt 4 t.account.opening),
     (34, beInt 6 t.account.received), (40, beInt 6 t.account.transferIn), (46, beInt 6 t.account.transferOut),
     (52, beInt 6 t.account.consumed), (58, flag t.account.saturated), (59, encOpt 3 (be 3) t.sounding),
     (63, flag t.soundingValid), (64, encOpt 1 (fun x : TankState => [BitVec.ofNat 8 x.ctorIdx]) t.state),
     (66, flag t.discrepancy), (67, encDeadline s.now t.discDeadline),
     (72, beInt 6 (if t.cfg.source = .SOUNDING ∧ t.soundingValid = true ∧ t.sounding ≠ none
        then (t.sounding.getD 0 : Int) * 1000 else t.account.book)),
     (78, beInt 4 (max 0 (min ((t.cfg.capacity : Int) * 1000) ((t.cfg.capacity : Int) * 1000 - t.account.book)))),
     (82, (if s.channels[0].state ≠ .IDLE ∧ (s.channels[0].source = some i ∨ s.channels[0].destination = some i) then [1, 0]
        else if s.channels[1].state ≠ .IDLE ∧ (s.channels[1].source = some i ∨ s.channels[1].destination = some i) then [1, 1]
        else [0, 0]))] := by
  subst ht
  rw [← claiming_eq, ← levelUsed_eq_ite, ← ullage_eq]
  exact laidOut_of_placed (by simp [tankBody, TankCfg.body, Account.body, enumByte]) (by simp [Placed])

/-! ## A line and its nodes (R157) -/

theorem entries_length (c : LineCtl) :
    c.entries.length = ((List.finRange 32).filter fun i => c.nodes[i].isSome).length := by
  rw [LineCtl.entries, List.length_filterMap_eq_countP, List.countP_eq_length_filter]
  simp only [Option.isSome_map]

theorem lineBody_laidOut (c : LineCtl) : LaidOut c.body 17
    [(0, [BitVec.ofNat 8 c.activity.ctorIdx]), (1, be 2 c.round),
     (3, encOpt 1 (fun i : Fin 32 => be 1 i.val) c.position),
     (5, encOpt 1 (fun x : Attempt => [BitVec.ofNat 8 x.ctorIdx]) c.attempt), (7, be 4 c.strays),
     (11, be 4 c.roundsCompleted), (15, flag c.lineDown),
     (16, be 1 ((List.finRange 32).filter fun i => c.nodes[i].isSome).length)] := by
  rw [← entries_length]
  exact laidOut_of_placed (by simp [LineCtl.body, enumByte]) (by simp [Placed])

theorem nodeBody_laidOut (e : NodeEntry) : LaidOut (nodeBody (some e))
    (17 + (encOpt e.bound.reportWidth NodeReport.body e.lastReport).length)
    [(0, [1]), (1, [BitVec.ofNat 8 e.bound.kind]), (2, be 1 e.address), (3, encOpt 1 (be 1) e.bound.number),
     (5, [BitVec.ofNat 8 e.state.ctorIdx]), (6, be 1 e.failures), (7, be 2 e.noise), (9, be 2 e.framing),
     (11, be 2 e.check), (13, be 2 e.timeout), (15, be 2 e.stray),
     (17, encOpt e.bound.reportWidth NodeReport.body e.lastReport)] :=
  laidOut_of_placed (by simp [nodeBody, NodeEntry.body, enumByte]) (by simp [Placed])

end Sys2Proof.Machine
end


section
/-! SUPPORT. The slices of the bodies of 12.3, and O21. -/

namespace Sys2Proof.Machine

open Sys2Proof

/-! ## Slices of the bodies of 12.3 -/

theorem helmBody_slices (s : State) :
    (helmBody s).length = 26 ∧ slice (helmBody s) 0 1 = [BitVec.ofNat 8 s.helm.state.ctorIdx]
    ∧ slice (helmBody s) 1 2 = encBridge s.helm.holder ∧ slice (helmBody s) 3 2 = encBridge s.helm.requester
    ∧ slice (helmBody s) 5 5 = encDeadline s.now s.helm.queryDeadline
    ∧ slice (helmBody s) 10 5 = encDeadline s.now s.helm.silenceDeadline
    ∧ slice (helmBody s) 15 2 = encBridge s.helm.lastHolder ∧ slice (helmBody s) 17 2 = be 2 s.helm.takeOvers
    ∧ slice (helmBody s) 19 2 = [BitVec.ofNat 8 s.helm.policyL.ctorIdx, BitVec.ofNat 8 s.helm.policyH.ctorIdx]
    ∧ slice (helmBody s) 21 2 = beInt 2 s.order.thrust ∧ slice (helmBody s) 23 2 = beInt 2 s.order.turn
    ∧ slice (helmBody s) 25 1 = [BitVec.ofNat 8 s.order.mode.ctorIdx] := by
  have h := helmBody_laidOut s
  exact ⟨h.1, slice_of_laidOut h 0 rfl rfl, slice_of_laidOut h 1 rfl (encBridge_length _),
    slice_of_laidOut h 2 rfl (encBridge_length _), slice_of_laidOut h 3 rfl (encDeadline_length _ _),
    slice_of_laidOut h 4 rfl (encDeadline_length _ _), slice_of_laidOut h 5 rfl (encBridge_length _),
    slice_of_laidOut h 6 rfl (be_length _ _), slice_of_laidOut h 7 rfl rfl, slice_of_laidOut h 8 rfl (beInt_length _ _),
    slice_of_laidOut h 9 rfl (beInt_length _ _), slice_of_laidOut h 10 rfl rfl⟩

theorem allocationBody_share (s : State) (i : Fin 8) :
    slice (allocationBody s) (19 + 2 * i.val) 2 = beInt 2 s.alloc.shares[i] := by
  have h := allocationBody_laidOut s
  match i with
  | 0 => exact slice_of_laidOut h 9 rfl (beInt_length _ _)
  | 1 => exact slice_of_laidOut h 10 rfl (beInt_length _ _)
  | 2 => exact slice_of_laidOut h 11 rfl (beInt_length _ _)
  | 3 => exact slice_of_laidOut h 12 rfl (beInt_length _ _)
  | 4 => exact slice_of_laidOut h 13 rfl (beInt_length _ _)
  | 5 => exact slice_of_laidOut h 14 rfl (beInt_length _ _)
  | 6 => exact slice_of_laidOut h 15 rfl (beInt_length _ _)
  | 7 => exact slice_of_laidOut h 16 rfl (beInt_length _ _)

theorem allocationBody_slices (s : State) :
    (allocationBody s).length = 44 ∧ slice (allocationBody s) 0 4 = be 4 s.alloc.passNumber
    ∧ slice (allocationBody s) 4 2 = beInt 2 s.alloc.tLim ∧ slice (allocationBody s) 6 2 = beInt 2 s.alloc.uLim
    ∧ slice (allocationBody s) 8 2 = be 2 s.alloc.ceilC ∧ slice (allocationBody s) 10 2 = be 2 s.alloc.ceilK
    ∧ slice (allocationBody s) 12 1 = [BitVec.ofNat 8 s.alloc.mode.ctorIdx]
    ∧ slice (allocationBody s) 13 2 = be 2 s.alloc.wCfg ∧ slice (allocationBody s) 15 2 = be 2 s.alloc.wAvail
    ∧ slice (allocationBody s) 17 2 = be 2 s.alloc.deficit
    ∧ (∀ i : Fin 8, slice (allocationBody s) (19 + 2 * i.val) 2 = beInt 2 s.alloc.shares[i])
    ∧ slice (allocationBody s) 35 6 =
      be 2 s.alloc.gains.lead ++ be 2 s.alloc.gains.helper ++ be 2 s.alloc.gains.bow
    ∧ slice (allocationBody s) 41 2 = beInt 2 s.alloc.lateral ∧ slice (allocationBody s) 43 1 = be 1 s.alloc.rounds := by
  have h := allocationBody_laidOut s
  exact ⟨h.1, slice_of_laidOut h 0 rfl (be_length _ _), slice_of_laidOut h 1 rfl (beInt_length _ _),
    slice_of_laidOut h 2 rfl (beInt_length _ _), slice_of_laidOut h 3 rfl (be_length _ _),
    slice_of_laidOut h 4 rfl (be_length _ _), slice_of_laidOut h 5 rfl rfl, slice_of_laidOut h 6 rfl (be_length _ _),
    slice_of_laidOut h 7 rfl (be_length _ _), slice_of_laidOut h 8 rfl (be_length _ _), allocationBody_share s,
    slice_of_laidOut h 17 rfl (by simp), slice_of_laidOut h 18 rfl (beInt_length _ _),
    slice_of_laidOut h 19 rfl (be_length _ _)⟩

theorem recordBody_slices (n : Nat) (r : MovementRecord) :
    (recordBody n r).length = 32 ∧ slice (recordBody n r) 0 1 = be 1 n
    ∧ (∀ x, r.number = some x → slice (recordBody n r) 1 2 = be 2 x)
    ∧ (∀ k, r.kind = some k → slice (recordBody n r) 3 1 = [BitVec.ofNat 8 k.ctorIdx])
    ∧ slice (recordBody n r) 4 2 = encOpt 1 (fun t : Fin 8 => be 1 t.val) r.source
    ∧ (∀ t, r.destination = some t → slice (recordBody n r) 6 1 = be 1 t.val)
    ∧ (∀ m, r.mode = some m → slice (recordBody n r) 7 1 = [BitVec.ofNat 8 m.ctorIdx])
    ∧ slice (recordBody n r) 8 4 = encOpt 3 (be 3) r.target ∧ slice (recordBody n r) 12 4 = be 4 r.moved
    ∧ slice (recordBody n r) 16 4 = be 4 r.runOn ∧ slice (recordBody n r) 20 1 = flag r.overflow
    ∧ slice (recordBody n r) 21 2 = be 2 r.wraps
    ∧ (∀ x, r.stopReason = some x → slice (recordBody n r) 23 1 = [BitVec.ofNat 8 x.ctorIdx])
    ∧ (∀ x, r.startSecond = some x → slice (recordBody n r) 24 4 = be 4 x)
    ∧ slice (recordBody n r) 28 4 = be 4 r.endSecond := by
  have h := recordBody_laidOut n r
  refine ⟨h.1, slice_of_laidOut h 0 rfl (be_length _ _), fun x hx => ?number, fun k hk => ?kind,
    slice_of_laidOut h 3 rfl (encOpt_index_length _), fun t ht => ?destination, fun m hm => ?mode,
    slice_of_laidOut h 6 rfl (encOpt_be_length _ _), slice_of_laidOut h 7 rfl (be_length _ _),
    slice_of_laidOut h 8 rfl (be_length _ _), slice_of_laidOut h 9 rfl rfl, slice_of_laidOut h 10 rfl (be_length _ _),
    fun x hx => ?stopReason, fun x hx => ?startSecond, slice_of_laidOut h 13 rfl (be_length _ _)⟩
  case number => rw [slice_of_laidOut h 1 rfl (be_length _ _), hx, Option.getD_some]
  case kind => rw [slice_of_laidOut h 2 rfl (enumByte_length _), hk]; rfl
  case destination => rw [slice_of_laidOut h 4 rfl (be_length _ _), ht]; rfl
  case mode => rw [slice_of_laidOut h 5 rfl (enumByte_length _), hm]; rfl
  case stopReason => rw [slice_of_laidOut h 11 rfl (enumByte_length _), hx]; rfl
  case startSecond => rw [slice_of_laidOut h 12 rfl (be_length _ _), hx, Option.getD_some]

theorem phaseBody_slices (s : State) :
    (phaseBody s).length = 12 ∧ slice (phaseBody s) 0 1 = [BitVec.ofNat 8 s.phase.phase.ctorIdx]
    ∧ slice (phaseBody s) 1 4 = be 4 s.phase.seconds
    ∧ (s.phase.lastCommit = none → slice (phaseBody s) 5 7 = [0, 0, 0, 0, 0, 0, 0])
    ∧ (s.phase.lastCommit = some .done → slice (phaseBody s) 5 7 = [1, 0, 0, 0, 0, 0, 0])
    ∧ ∀ (n : Nat) (x : Option CommitItem), s.phase.lastCommit = some (.invalid n x) →
      slice (phaseBody s) 5 7 = [1, 24] ++ invalidBody n x := by
  have h := phaseBody_laidOut s
  have houtcome : slice (phaseBody s) 5 7 = outcomeBody s.phase.lastCommit :=
    slice_of_laidOut h 2 rfl (outcomeBody_length _)
  exact ⟨h.1, slice_of_laidOut h 0 rfl rfl, slice_of_laidOut h 1 rfl (be_length _ _),
    fun hnone => by rw [houtcome, hnone]; rfl, fun hdone => by rw [houtcome, hdone]; rfl,
    fun n x hinvalid => by rw [houtcome, hinvalid]; rfl⟩

/-! ## Fields -/

theorem nodeReport_bodies (e : EngineReport) (a : Int) (w : WinchReport) (m : MeterReport) (t : TankReport)
    (x : PumpStatus) :
    (NodeReport.engine e).body = be 2 e.rpm ++ [BitVec.ofNat 8 e.gear.ctorIdx] ++ be 2 e.rack
      ++ [BitVec.ofNat 8 e.fault.ctorIdx]
    ∧ (NodeReport.rudder a).body = beInt 2 a
    ∧ (NodeReport.winch w).body = be 2 w.tension ++ [BitVec.ofNat 8 w.drum.ctorIdx]
    ∧ (NodeReport.meter m).body = be 2 m.ch1.count ++ encTemp m.ch1.temp ++ be 2 m.ch2.count ++ encTemp m.ch2.temp
    ∧ (NodeReport.tank t).body = be 3 t.level ++ flag t.valid
    ∧ (NodeReport.pump x).body = [BitVec.ofNat 8 x.ctorIdx] :=
  ⟨rfl, rfl, rfl, by simp [NodeReport.body, channelReportBody], rfl, rfl⟩

theorem encNode_bytes (l : Line) (a : Nat) :
    encNode none = [0, 0, 0] ∧ encNode (some { line := l, address := a }) = [1, BitVec.ofNat 8 l.ctorIdx, BitVec.ofNat 8 a] :=
  ⟨rfl, by simp [encNode, encOpt, enumByte, be]⟩

theorem ageMs_bound (now : Nat) : ageMs now none = 65535
    ∧ ∀ t : Nat, ∃ n : Nat, ageMs now (some t) = min 65535 n
      ∧ ((now - t) % 2304 = 0 → n = (now - t) / 2304)
      ∧ (n = (now - t) / 2304 ∨ n = (now - t) / 2304 + 1) :=
  ⟨rfl, fun t => ⟨msOf (now - t), rfl, msOf_whole, msOf_near _⟩⟩

theorem deadline_bytes (now : Nat) :
    encDeadline now none = [0, 0, 0, 0, 0] ∧ encStateDeadline now none = [0, 0, 0, 0, 0, 0]
    ∧ ∀ (d : Nat) (k : StateDeadlineKind), ∃ n : Nat, encDeadline now (some d) = 1 :: be 4 n
      ∧ encStateDeadline now (some { kind := k, time := d }) = 1 :: BitVec.ofNat 8 k.ctorIdx :: be 4 n
      ∧ ((d - now) % 2304 = 0 → n = (d - now) / 2304)
      ∧ (n = (d - now) / 2304 ∨ n = (d - now) / 2304 + 1) :=
  ⟨rfl, rfl, fun d _ => ⟨msOf (d - now), rfl, rfl, msOf_whole, msOf_near _⟩⟩

/-- Settles O21: each body is its fields one after another (`laidOut_of_placed`), so a field is the slice at its place. -/
theorem bodyLayouts : Obligations.BodyLayouts := by
  refine ⟨helmBody_slices, allocationBody_slices, recordBody_slices, invalidBody_none, invalidBody_some, phaseBody_slices,
    fun n v => ⟨be_length n v, be_value n v⟩, fun n v => ⟨beInt_length n v, beInt_value n v⟩, paramsBody_laidOut,
    engineBody_laidOut, rudderBody_laidOut, steeringBody_laidOut, couplingBody_laidOut, ceilingsBody_laidOut,
    meterBody_laidOut, tankBody_laidOut, channelBody_laidOut, lineBody_laidOut, portBody_laidOut, rfl, nodeBody_laidOut,
    fun _ _ _ => rfl, nodeReport_bodies, fun f v c => ⟨settingIndex_full f v, fun hc => ⟨settingIndex_none hc, fun i =>
      settingIndex_some hc⟩⟩, fun _ => rfl, encNode_bytes, fun _ => ⟨rfl, rfl⟩, fun _ _ _ _ => ⟨rfl, rfl⟩, encBridge_eq,
    flag_eq, ageMs_bound, deadline_bytes⟩

end Sys2Proof.Machine
end
